-- ==== Sys2Proof/Word.lean ====
section
/-! DEFINITION. Bytes, words and physical addresses (00_scope.md R9, R10, R12). -/

namespace Sys2Proof

/-- A byte is 8 bits (R12). -/
abbrev Byte := BitVec 8

/-- A word is 16 bits (R12): general registers, segment registers, offsets, `ip`. -/
abbrev Word := BitVec 16

/-- A physical byte address is 20 bits (R10, 20_memory.md R81). -/
abbrev PhysAddr := BitVec 20

end Sys2Proof
end

