-- ==== Sys2Proof/Config.lean ====
section
/-! DEFINITION. The parameters of 00_scope.md R11, which are fixed for a run and stand in the
field `cfg` of State so that every statement holds for every value of them (log 3), and the free
values, which have no body (log 7). -/

namespace Sys2Proof

/-- `P_BUS_WIDTH` (R11): the 8-bit bus of the 8088 or the 16-bit bus of the 8086. -/
inductive BusWidth where
  | bus8
  | bus16
  deriving DecidableEq, Repr

/-- `P_CPU_VARIANT` (R11, 41_arithmetic.md R275). -/
inductive CpuVariant where
  | intel
  | compat
  deriving DecidableEq, Repr

/-- `P_UNDOC_OPCODES` (R11, 46_undocumented.md R440). -/
inductive UndocOpcodes where
  | silicon
  | noop
  deriving DecidableEq, Repr

/-- `P_REP_RESUME` (R11, 43_string.md R341). -/
inductive RepResume where
  | lastPrefix
  | firstPrefix
  deriving DecidableEq, Repr

/-- A run of physical addresses: `len` bytes from `base`. -/
structure Region where
  base : Nat
  len  : Nat
  deriving DecidableEq, Repr

/-- The parameters of R11. -/
structure Config where
  /-- `P_BUS_WIDTH`. -/
  busWidth   : BusWidth
  /-- `P_CPU_VARIANT`. -/
  cpuVariant : CpuVariant
  /-- `P_UNDOC_OPCODES`. -/
  undoc      : UndocOpcodes
  /-- `P_STI_SHADOW`. -/
  stiShadow  : Bool
  /-- `P_REP_RESUME`. -/
  repResume  : RepResume
  /-- `P_ADC_QUIRK_AF`: `none` is the default `draw`, `some b` a fixed AF. -/
  adcQuirkAf : Option Bool
  /-- `P_OPEN_BUS`: what a read of an unmapped address returns (60_exceptions.md R526). -/
  openBus    : Byte
  /-- The physical addresses to which the memory collaborator maps nothing (R526; log 5). -/
  unmapped   : List Region
  deriving DecidableEq, Repr

namespace Config

/-- A `draw()` of one bit (R15). -/
opaque freeBit : Nat → Bool

/-- A `draw()` of one byte (R15): the answer of a byte `IORead` (20_memory.md R88). -/
opaque freeByte : Nat → Byte

/-- A `draw()` of one word (R15): the answer of a word `IORead` (20_memory.md R88). -/
opaque freeWord : Nat → Word

/-- How many bytes the bus unit appends at a fill point: any number (20_memory.md R100,
93_implementation_defined.md U15; log 6). -/
opaque freeFill : Nat → Nat

/-- The value of `P_OPEN_BUS` in State.reset: OPEN in R11, so it has no body. -/
opaque openBusByte : Byte

/-- The defaults of R11. `busWidth` is OPEN there: the 8-bit bus is a DESIGN CHOICE (log 3);
`unmapped` is the platform's: none is a DESIGN CHOICE (log 5). -/
def standard : Config where
  busWidth   := .bus8
  cpuVariant := .intel
  undoc      := .silicon
  stiShadow  := false
  repResume  := .lastPrefix
  adcQuirkAf := none
  openBus    := openBusByte
  unmapped   := []

end Config

end Sys2Proof
end

