-- ==== Sys2Proof/Syntax.lean ====
section
/-! DEFINITION. Instructions: one constructor of `Instr` per row of spec/opcode_table.json
(30_encoding.md R135, R136), with the operand forms of R123 to R131. -/

namespace Sys2Proof

/-- The word registers in the order of their numbers (10_state.md R30). -/
inductive Reg where
  | ax | cx | dx | bx | sp | bp | si | di
  deriving DecidableEq, Repr

/-- The byte registers in the order of their numbers (10_state.md R31). -/
inductive Reg8 where
  | al | cl | dl | bl | ah | ch | dh | bh
  deriving DecidableEq, Repr

/-- The segment registers in the order of their numbers (10_state.md R33). -/
inductive SReg where
  | es | cs | ss | ds
  deriving DecidableEq, Repr

/-- The base and index of a memory operand in the order of the `rm` codes (30_encoding.md R124). -/
inductive BaseIndex where
  | bxSi | bxDi | bpSi | bpDi | si | di | bp | bx
  deriving DecidableEq, Repr

/-- A memory operand of a ModRM byte (30_encoding.md R124, R125, R127): the mod = 00, rm = 110 form
is `direct`; mod = 00, 01 and 10 are the other three. -/
inductive MemRef where
  | direct (off : Word)
  | base (b : BaseIndex)
  | baseD8 (b : BaseIndex) (d : Byte)
  | baseD16 (b : BaseIndex) (d : Word)
  deriving DecidableEq, Repr

/-- The E operand (30_encoding.md R123): a register of the operation's width (mod = 11, R126) or a
memory operand. -/
inductive RM (ρ : Type) where
  | reg (r : ρ)
  | mem (m : MemRef)
  deriving DecidableEq, Repr

/-- The two repeat kinds (10_state.md R41): F3 and F2. -/
inductive RepKind where
  | repe
  | repne
  deriving DecidableEq, Repr

/-- Operand widths: byte (w = 0) and word (w = 1), 30_encoding.md R122. -/
inductive Width where
  | byte
  | word
  deriving DecidableEq, Repr

/-- The string operations (43_string.md R340). -/
inductive StrOp where
  | movs | cmps | stos | lods | scas
  deriving DecidableEq, Repr

/-- A string opcode: operation and width (43_string.md R340). -/
structure StrInsn where
  op    : StrOp
  width : Width
  deriving DecidableEq, Repr

/-- The instructions: first those with operand fields, then those without, each group in the table's
order (Lean's compiler bounds the number of a constructor that has fields). Each constructor's comment
gives its key bytes and the rule of its meaning. A group row that 46_undocumented.md R450 refuses keeps its E
operand and the immediate that 30_encoding.md R132 counts, `Unit` where it counts none. -/
inductive Instr where
  /-- 00, R255. -/
  | addEbGb (e : RM Reg8) (g : Reg8)
  /-- 01, R255. -/
  | addEvGv (e : RM Reg) (g : Reg)
  /-- 02, R255. -/
  | addGbEb (g : Reg8) (e : RM Reg8)
  /-- 03, R255. -/
  | addGvEv (g : Reg) (e : RM Reg)
  /-- 04, R255. -/
  | addAlIb (imm : Byte)
  /-- 05, R255. -/
  | addAxIv (imm : Word)
  /-- 08, R303. -/
  | orEbGb (e : RM Reg8) (g : Reg8)
  /-- 09, R303. -/
  | orEvGv (e : RM Reg) (g : Reg)
  /-- 0A, R303. -/
  | orGbEb (g : Reg8) (e : RM Reg8)
  /-- 0B, R303. -/
  | orGvEv (g : Reg) (e : RM Reg)
  /-- 0C, R303. -/
  | orAlIb (imm : Byte)
  /-- 0D, R303. -/
  | orAxIv (imm : Word)
  /-- 10, R256. -/
  | adcEbGb (e : RM Reg8) (g : Reg8)
  /-- 11, R256. -/
  | adcEvGv (e : RM Reg) (g : Reg)
  /-- 12, R256. -/
  | adcGbEb (g : Reg8) (e : RM Reg8)
  /-- 13, R256. -/
  | adcGvEv (g : Reg) (e : RM Reg)
  /-- 14, R256. -/
  | adcAlIb (imm : Byte)
  /-- 15, R256. -/
  | adcAxIv (imm : Word)
  /-- 18, R261. -/
  | sbbEbGb (e : RM Reg8) (g : Reg8)
  /-- 19, R261. -/
  | sbbEvGv (e : RM Reg) (g : Reg)
  /-- 1A, R261. -/
  | sbbGbEb (g : Reg8) (e : RM Reg8)
  /-- 1B, R261. -/
  | sbbGvEv (g : Reg) (e : RM Reg)
  /-- 1C, R261. -/
  | sbbAlIb (imm : Byte)
  /-- 1D, R261. -/
  | sbbAxIv (imm : Word)
  /-- 20, R302. -/
  | andEbGb (e : RM Reg8) (g : Reg8)
  /-- 21, R302. -/
  | andEvGv (e : RM Reg) (g : Reg)
  /-- 22, R302. -/
  | andGbEb (g : Reg8) (e : RM Reg8)
  /-- 23, R302. -/
  | andGvEv (g : Reg) (e : RM Reg)
  /-- 24, R302. -/
  | andAlIb (imm : Byte)
  /-- 25, R302. -/
  | andAxIv (imm : Word)
  /-- 28, R260. -/
  | subEbGb (e : RM Reg8) (g : Reg8)
  /-- 29, R260. -/
  | subEvGv (e : RM Reg) (g : Reg)
  /-- 2A, R260. -/
  | subGbEb (g : Reg8) (e : RM Reg8)
  /-- 2B, R260. -/
  | subGvEv (g : Reg) (e : RM Reg)
  /-- 2C, R260. -/
  | subAlIb (imm : Byte)
  /-- 2D, R260. -/
  | subAxIv (imm : Word)
  /-- 30, R304. -/
  | xorEbGb (e : RM Reg8) (g : Reg8)
  /-- 31, R304. -/
  | xorEvGv (e : RM Reg) (g : Reg)
  /-- 32, R304. -/
  | xorGbEb (g : Reg8) (e : RM Reg8)
  /-- 33, R304. -/
  | xorGvEv (g : Reg) (e : RM Reg)
  /-- 34, R304. -/
  | xorAlIb (imm : Byte)
  /-- 35, R304. -/
  | xorAxIv (imm : Word)
  /-- 38, R262. -/
  | cmpEbGb (e : RM Reg8) (g : Reg8)
  /-- 39, R262. -/
  | cmpEvGv (e : RM Reg) (g : Reg)
  /-- 3A, R262. -/
  | cmpGbEb (g : Reg8) (e : RM Reg8)
  /-- 3B, R262. -/
  | cmpGvEv (g : Reg) (e : RM Reg)
  /-- 3C, R262. -/
  | cmpAlIb (imm : Byte)
  /-- 3D, R262. -/
  | cmpAxIv (imm : Word)
  /-- 40+r, R257. -/
  | incR16 (r : Reg)
  /-- 48+r, R263. -/
  | decR16 (r : Reg)
  /-- 50+r, R207. -/
  | pushR16 (r : Reg)
  /-- 58+r, R210. -/
  | popR16 (r : Reg)
  /-- 60+cc, R442. -/
  | jccAlias (cc : BitVec 4) (rel : Byte)
  /-- 70, R385. -/
  | joRel8 (rel : Byte)
  /-- 71, R386. -/
  | jnoRel8 (rel : Byte)
  /-- 72, R387. -/
  | jbRel8 (rel : Byte)
  /-- 73, R388. -/
  | jnbRel8 (rel : Byte)
  /-- 74, R389. -/
  | jeRel8 (rel : Byte)
  /-- 75, R390. -/
  | jneRel8 (rel : Byte)
  /-- 76, R391. -/
  | jbeRel8 (rel : Byte)
  /-- 77, R392. -/
  | jaRel8 (rel : Byte)
  /-- 78, R393. -/
  | jsRel8 (rel : Byte)
  /-- 79, R394. -/
  | jnsRel8 (rel : Byte)
  /-- 7A, R395. -/
  | jpRel8 (rel : Byte)
  /-- 7B, R396. -/
  | jnpRel8 (rel : Byte)
  /-- 7C, R397. -/
  | jlRel8 (rel : Byte)
  /-- 7D, R398. -/
  | jgeRel8 (rel : Byte)
  /-- 7E, R399. -/
  | jleRel8 (rel : Byte)
  /-- 7F, R400. -/
  | jgRel8 (rel : Byte)
  /-- 80 /0, R255. -/
  | addEbIb (e : RM Reg8) (imm : Byte)
  /-- 80 /1, R303. -/
  | orEbIb (e : RM Reg8) (imm : Byte)
  /-- 80 /2, R256. -/
  | adcEbIb (e : RM Reg8) (imm : Byte)
  /-- 80 /3, R261. -/
  | sbbEbIb (e : RM Reg8) (imm : Byte)
  /-- 80 /4, R302. -/
  | andEbIb (e : RM Reg8) (imm : Byte)
  /-- 80 /5, R260. -/
  | subEbIb (e : RM Reg8) (imm : Byte)
  /-- 80 /6, R304. -/
  | xorEbIb (e : RM Reg8) (imm : Byte)
  /-- 80 /7, R262. -/
  | cmpEbIb (e : RM Reg8) (imm : Byte)
  /-- 81 /0, R255. -/
  | addEvIv (e : RM Reg) (imm : Word)
  /-- 81 /1, R303. -/
  | orEvIv (e : RM Reg) (imm : Word)
  /-- 81 /2, R256. -/
  | adcEvIv (e : RM Reg) (imm : Word)
  /-- 81 /3, R261. -/
  | sbbEvIv (e : RM Reg) (imm : Word)
  /-- 81 /4, R302. -/
  | andEvIv (e : RM Reg) (imm : Word)
  /-- 81 /5, R260. -/
  | subEvIv (e : RM Reg) (imm : Word)
  /-- 81 /6, R304. -/
  | xorEvIv (e : RM Reg) (imm : Word)
  /-- 81 /7, R262. -/
  | cmpEvIv (e : RM Reg) (imm : Word)
  /-- 82 /0, R447. -/
  | addEbIb82 (e : RM Reg8) (imm : Byte)
  /-- 82 /1, R447. -/
  | orEbIb82 (e : RM Reg8) (imm : Byte)
  /-- 82 /2, R447. -/
  | adcEbIb82 (e : RM Reg8) (imm : Byte)
  /-- 82 /3, R447. -/
  | sbbEbIb82 (e : RM Reg8) (imm : Byte)
  /-- 82 /4, R447. -/
  | andEbIb82 (e : RM Reg8) (imm : Byte)
  /-- 82 /5, R447. -/
  | subEbIb82 (e : RM Reg8) (imm : Byte)
  /-- 82 /6, R447. -/
  | xorEbIb82 (e : RM Reg8) (imm : Byte)
  /-- 82 /7, R447. -/
  | cmpEbIb82 (e : RM Reg8) (imm : Byte)
  /-- 83 /0, R255. -/
  | addEvIbSx (e : RM Reg) (imm : Byte)
  /-- 83 /1, R303. -/
  | orEvIbSx (e : RM Reg) (imm : Byte)
  /-- 83 /2, R256. -/
  | adcEvIbSx (e : RM Reg) (imm : Byte)
  /-- 83 /3, R261. -/
  | sbbEvIbSx (e : RM Reg) (imm : Byte)
  /-- 83 /4, R302. -/
  | andEvIbSx (e : RM Reg) (imm : Byte)
  /-- 83 /5, R260. -/
  | subEvIbSx (e : RM Reg) (imm : Byte)
  /-- 83 /6, R304. -/
  | xorEvIbSx (e : RM Reg) (imm : Byte)
  /-- 83 /7, R262. -/
  | cmpEvIbSx (e : RM Reg) (imm : Byte)
  /-- 84, R305. -/
  | testEbGb (e : RM Reg8) (g : Reg8)
  /-- 85, R305. -/
  | testEvGv (e : RM Reg) (g : Reg)
  /-- 86, R213. -/
  | xchgEbGb (e : RM Reg8) (g : Reg8)
  /-- 87, R213. -/
  | xchgEvGv (e : RM Reg) (g : Reg)
  /-- 88, R201. -/
  | movEbGb (e : RM Reg8) (g : Reg8)
  /-- 89, R201. -/
  | movEvGv (e : RM Reg) (g : Reg)
  /-- 8A, R201. -/
  | movGbEb (g : Reg8) (e : RM Reg8)
  /-- 8B, R201. -/
  | movGvEv (g : Reg) (e : RM Reg)
  /-- 8C /0..3, R205. -/
  | movEwSreg (e : RM Reg) (sr : SReg)
  /-- 8C /4..7, R450. -/
  | movEwSregBad (x : BitVec 2) (e : RM Reg)
  /-- 8D, R219. -/
  | leaGvM (g : Reg) (e : RM Reg)
  /-- 8E /0..3, R206. -/
  | movSregEw (sr : SReg) (e : RM Reg)
  /-- 8E /4..7, R450. -/
  | movSregEwBad (x : BitVec 2) (e : RM Reg)
  /-- 8F /0, R212. -/
  | popEv (e : RM Reg)
  /-- 8F /1, R450. -/
  | refused8F1 (e : RM Reg) (imm : Unit)
  /-- 8F /2, R450. -/
  | refused8F2 (e : RM Reg) (imm : Unit)
  /-- 8F /3, R450. -/
  | refused8F3 (e : RM Reg) (imm : Unit)
  /-- 8F /4, R450. -/
  | refused8F4 (e : RM Reg) (imm : Unit)
  /-- 8F /5, R450. -/
  | refused8F5 (e : RM Reg) (imm : Unit)
  /-- 8F /6, R450. -/
  | refused8F6 (e : RM Reg) (imm : Unit)
  /-- 8F /7, R450. -/
  | refused8F7 (e : RM Reg) (imm : Unit)
  /-- 9A, R373. -/
  | callAp (off : Word) (sg : Word)
  /-- A0, R204. -/
  | movAlOb (off : Word)
  /-- A1, R204. -/
  | movAxOv (off : Word)
  /-- A2, R204. -/
  | movObAl (off : Word)
  /-- A3, R204. -/
  | movOvAx (off : Word)
  /-- A8, R305. -/
  | testAlIb (imm : Byte)
  /-- A9, R305. -/
  | testAxIv (imm : Word)
  /-- B0+r, R203. -/
  | movR8Ib (r : Reg8) (imm : Byte)
  /-- B8+r, R203. -/
  | movR16Iv (r : Reg) (imm : Word)
  /-- C0, R443. -/
  | retIwC0 (imm : Word)
  /-- C2, R381. -/
  | retIw (imm : Word)
  /-- C4, R221. -/
  | lesGvMp (g : Reg) (e : RM Reg)
  /-- C5, R220. -/
  | ldsGvMp (g : Reg) (e : RM Reg)
  /-- C6 /0, R202. -/
  | movEbIb (e : RM Reg8) (imm : Byte)
  /-- C7 /0, R202. -/
  | movEvIv (e : RM Reg) (imm : Word)
  /-- C6 /1, R450. -/
  | refusedC61 (e : RM Reg8) (imm : Byte)
  /-- C6 /2, R450. -/
  | refusedC62 (e : RM Reg8) (imm : Byte)
  /-- C6 /3, R450. -/
  | refusedC63 (e : RM Reg8) (imm : Byte)
  /-- C6 /4, R450. -/
  | refusedC64 (e : RM Reg8) (imm : Byte)
  /-- C6 /5, R450. -/
  | refusedC65 (e : RM Reg8) (imm : Byte)
  /-- C6 /6, R450. -/
  | refusedC66 (e : RM Reg8) (imm : Byte)
  /-- C6 /7, R450. -/
  | refusedC67 (e : RM Reg8) (imm : Byte)
  /-- C7 /1, R450. -/
  | refusedC71 (e : RM Reg) (imm : Word)
  /-- C7 /2, R450. -/
  | refusedC72 (e : RM Reg) (imm : Word)
  /-- C7 /3, R450. -/
  | refusedC73 (e : RM Reg) (imm : Word)
  /-- C7 /4, R450. -/
  | refusedC74 (e : RM Reg) (imm : Word)
  /-- C7 /5, R450. -/
  | refusedC75 (e : RM Reg) (imm : Word)
  /-- C7 /6, R450. -/
  | refusedC76 (e : RM Reg) (imm : Word)
  /-- C7 /7, R450. -/
  | refusedC77 (e : RM Reg) (imm : Word)
  /-- C8, R444. -/
  | retfIwC8 (imm : Word)
  /-- CA, R383. -/
  | retfIw (imm : Word)
  /-- CD, R405. -/
  | intIb (imm : Byte)
  /-- D0 /0, R307. -/
  | rolEb1 (e : RM Reg8)
  /-- D0 /1, R308. -/
  | rorEb1 (e : RM Reg8)
  /-- D0 /2, R309. -/
  | rclEb1 (e : RM Reg8)
  /-- D0 /3, R310. -/
  | rcrEb1 (e : RM Reg8)
  /-- D0 /4, R311. -/
  | shlEb1 (e : RM Reg8)
  /-- D0 /5, R312. -/
  | shrEb1 (e : RM Reg8)
  /-- D0 /6, R450. -/
  | refusedD06 (e : RM Reg8) (imm : Unit)
  /-- D0 /7, R313. -/
  | sarEb1 (e : RM Reg8)
  /-- D1 /0, R307. -/
  | rolEv1 (e : RM Reg)
  /-- D1 /1, R308. -/
  | rorEv1 (e : RM Reg)
  /-- D1 /2, R309. -/
  | rclEv1 (e : RM Reg)
  /-- D1 /3, R310. -/
  | rcrEv1 (e : RM Reg)
  /-- D1 /4, R311. -/
  | shlEv1 (e : RM Reg)
  /-- D1 /5, R312. -/
  | shrEv1 (e : RM Reg)
  /-- D1 /6, R450. -/
  | refusedD16 (e : RM Reg) (imm : Unit)
  /-- D1 /7, R313. -/
  | sarEv1 (e : RM Reg)
  /-- D2 /0, R307. -/
  | rolEbCl (e : RM Reg8)
  /-- D2 /1, R308. -/
  | rorEbCl (e : RM Reg8)
  /-- D2 /2, R309. -/
  | rclEbCl (e : RM Reg8)
  /-- D2 /3, R310. -/
  | rcrEbCl (e : RM Reg8)
  /-- D2 /4, R311. -/
  | shlEbCl (e : RM Reg8)
  /-- D2 /5, R312. -/
  | shrEbCl (e : RM Reg8)
  /-- D2 /6, R450. -/
  | refusedD26 (e : RM Reg8) (imm : Unit)
  /-- D2 /7, R313. -/
  | sarEbCl (e : RM Reg8)
  /-- D3 /0, R307. -/
  | rolEvCl (e : RM Reg)
  /-- D3 /1, R308. -/
  | rorEvCl (e : RM Reg)
  /-- D3 /2, R309. -/
  | rclEvCl (e : RM Reg)
  /-- D3 /3, R310. -/
  | rcrEvCl (e : RM Reg)
  /-- D3 /4, R311. -/
  | shlEvCl (e : RM Reg)
  /-- D3 /5, R312. -/
  | shrEvCl (e : RM Reg)
  /-- D3 /6, R450. -/
  | refusedD36 (e : RM Reg) (imm : Unit)
  /-- D3 /7, R313. -/
  | sarEvCl (e : RM Reg)
  /-- D4, R272. -/
  | aamIb (imm : Byte)
  /-- D5, R269. -/
  | aadIb (imm : Byte)
  /-- D8+x, R419. -/
  | esc (x : BitVec 3) (y : BitVec 3) (e : RM Reg)
  /-- E0, R403. -/
  | loopnzRel8 (rel : Byte)
  /-- E1, R402. -/
  | loopzRel8 (rel : Byte)
  /-- E2, R401. -/
  | loopRel8 (rel : Byte)
  /-- E3, R404. -/
  | jcxzRel8 (rel : Byte)
  /-- E4, R216. -/
  | inAlIb (imm : Byte)
  /-- E5, R216. -/
  | inAxIb (imm : Byte)
  /-- E6, R217. -/
  | outIbAl (imm : Byte)
  /-- E7, R217. -/
  | outIbAx (imm : Byte)
  /-- E8, R371. -/
  | callRel16 (rel : Word)
  /-- E9, R376. -/
  | jmpRel16 (rel : Word)
  /-- EA, R378. -/
  | jmpAp (off : Word) (sg : Word)
  /-- EB, R375. -/
  | jmpRel8 (rel : Byte)
  /-- F6 /0, R305. -/
  | testEbIb (e : RM Reg8) (imm : Byte)
  /-- F6 /1, R448. -/
  | testEbIbF1 (e : RM Reg8) (imm : Byte)
  /-- F6 /2, R301. -/
  | notEb (e : RM Reg8)
  /-- F6 /3, R264. -/
  | negEb (e : RM Reg8)
  /-- F6 /4, R267. -/
  | mulEb (e : RM Reg8)
  /-- F6 /5, R268. -/
  | imulEb (e : RM Reg8)
  /-- F6 /6, R270. -/
  | divEb (e : RM Reg8)
  /-- F6 /7, R271. -/
  | idivEb (e : RM Reg8)
  /-- F7 /0, R305. -/
  | testEvIv (e : RM Reg) (imm : Word)
  /-- F7 /1, R448. -/
  | testEvIvF1 (e : RM Reg) (imm : Word)
  /-- F7 /2, R301. -/
  | notEv (e : RM Reg)
  /-- F7 /3, R264. -/
  | negEv (e : RM Reg)
  /-- F7 /4, R267. -/
  | mulEv (e : RM Reg)
  /-- F7 /5, R268. -/
  | imulEv (e : RM Reg)
  /-- F7 /6, R270. -/
  | divEv (e : RM Reg)
  /-- F7 /7, R271. -/
  | idivEv (e : RM Reg)
  /-- FE /0, R257. -/
  | incEb (e : RM Reg8)
  /-- FE /1, R263. -/
  | decEb (e : RM Reg8)
  /-- FE /2, R450. -/
  | refusedFE2 (e : RM Reg8) (imm : Unit)
  /-- FE /3, R450. -/
  | refusedFE3 (e : RM Reg8) (imm : Unit)
  /-- FE /4, R450. -/
  | refusedFE4 (e : RM Reg8) (imm : Unit)
  /-- FE /5, R450. -/
  | refusedFE5 (e : RM Reg8) (imm : Unit)
  /-- FE /6, R450. -/
  | refusedFE6 (e : RM Reg8) (imm : Unit)
  /-- FE /7, R450. -/
  | refusedFE7 (e : RM Reg8) (imm : Unit)
  /-- FF /0, R257. -/
  | incEv (e : RM Reg)
  /-- FF /1, R263. -/
  | decEv (e : RM Reg)
  /-- FF /2, R372. -/
  | callEv (e : RM Reg)
  /-- FF /3, R374. -/
  | callMp (e : RM Reg)
  /-- FF /4, R377. -/
  | jmpEv (e : RM Reg)
  /-- FF /5, R379. -/
  | jmpMp (e : RM Reg)
  /-- FF /6, R209. -/
  | pushEv (e : RM Reg)
  /-- FF /7, R450. -/
  | refusedFF7 (e : RM Reg) (imm : Unit)
  /-- unknown byte, R449. -/
  | unknownOpcode (b : Byte)
  /-- 06, R208. -/
  | pushEs
  /-- 0E, R208. -/
  | pushCs
  /-- 16, R208. -/
  | pushSs
  /-- 1E, R208. -/
  | pushDs
  /-- 07, R211. -/
  | popEs
  /-- 17, R211. -/
  | popSs
  /-- 1F, R211. -/
  | popDs
  /-- 0F, R441. -/
  | popCs
  /-- 26, R421. -/
  | segEs
  /-- 2E, R421. -/
  | segCs
  /-- 36, R421. -/
  | segSs
  /-- 3E, R421. -/
  | segDs
  /-- 27, R259. -/
  | daa
  /-- 2F, R266. -/
  | das
  /-- 37, R258. -/
  | aaa
  /-- 3F, R265. -/
  | aas
  /-- 90, R215. -/
  | nop
  /-- 91, R214. -/
  | xchgAxCx
  /-- 92, R214. -/
  | xchgAxDx
  /-- 93, R214. -/
  | xchgAxBx
  /-- 94, R214. -/
  | xchgAxSp
  /-- 95, R214. -/
  | xchgAxBp
  /-- 96, R214. -/
  | xchgAxSi
  /-- 97, R214. -/
  | xchgAxDi
  /-- 98, R273. -/
  | cbw
  /-- 99, R274. -/
  | cwd
  /-- 9B, R418. -/
  | wait
  /-- 9C, R224. -/
  | pushf
  /-- 9D, R225. -/
  | popf
  /-- 9E, R223. -/
  | sahf
  /-- 9F, R222. -/
  | lahf
  /-- A4, R343. -/
  | movsb
  /-- A5, R343. -/
  | movsw
  /-- A6, R344. -/
  | cmpsb
  /-- A7, R344. -/
  | cmpsw
  /-- AA, R347. -/
  | stosb
  /-- AB, R347. -/
  | stosw
  /-- AC, R346. -/
  | lodsb
  /-- AD, R346. -/
  | lodsw
  /-- AE, R345. -/
  | scasb
  /-- AF, R345. -/
  | scasw
  /-- C1, R443. -/
  | retC1
  /-- C3, R380. -/
  | ret
  /-- C9, R444. -/
  | retfC9
  /-- CB, R382. -/
  | retf
  /-- CC, R406. -/
  | int3
  /-- CE, R407. -/
  | into
  /-- CF, R408. -/
  | iret
  /-- D6, R445. -/
  | salc
  /-- D7, R218. -/
  | xlat
  /-- EC, R216. -/
  | inAlDx
  /-- ED, R216. -/
  | inAxDx
  /-- EE, R217. -/
  | outDxAl
  /-- EF, R217. -/
  | outDxAx
  /-- F0, R420. -/
  | lock
  /-- F1, R446. -/
  | lockF1
  /-- F2, R422. -/
  | repne
  /-- F3, R422. -/
  | repe
  /-- F4, R417. -/
  | hlt
  /-- F5, R412. -/
  | cmc
  /-- F8, R410. -/
  | clc
  /-- F9, R411. -/
  | stc
  /-- FA, R415. -/
  | cli
  /-- FB, R416. -/
  | sti
  /-- FC, R413. -/
  | cld
  /-- FD, R414. -/
  | std
  deriving DecidableEq, Repr

end Sys2Proof
end

