-- ==== Sys2Proof/Decode.lean ====
section
/-! DEFINITION. Decoding and encoding (30_encoding.md R120 to R136, spec/opcode_table.json):
the byte-order and sign-extension helpers, the register numbers, the opcode map row by row as R135
gives it, the groups as R136 gives them, a decoder that is total on any bytes, an encoder written
from the same tables, and the table's own word numbering. -/

namespace Sys2Proof

/-! ## Byte order and extension (20_memory.md R83, 00_scope.md R12) -/

/-- Bits 7:0 of a word. -/
def loByte (w : Word) : Byte := w.setWidth 8

/-- Bits 15:8 of a word. -/
def hiByte (w : Word) : Byte := (w >>> 8).setWidth 8

/-- The word with the given high and low bytes. -/
def mkWord (hi lo : Byte) : Word := hi ++ lo

/-- `sext_16` of a byte (R12). -/
def sext16 (b : Byte) : Word := b.signExtend 16

/-- `zext_16` of a byte (R12). -/
def zext16 (b : Byte) : Word := b.setWidth 16

/-! ## Register numbers -/

/-- The 3-bit number of a word register (10_state.md R30). -/
def Reg.code : Reg → BitVec 3
  | .ax => 0#3 | .cx => 1#3 | .dx => 2#3 | .bx => 3#3 | .sp => 4#3 | .bp => 5#3 | .si => 6#3 | .di => 7#3

/-- The word register of a 3-bit number (10_state.md R30). -/
def Reg.ofCode (c : BitVec 3) : Reg :=
  match c.toNat with
  | 0 => .ax | 1 => .cx | 2 => .dx | 3 => .bx | 4 => .sp | 5 => .bp | 6 => .si | _ => .di

/-- The 3-bit number of a byte register (10_state.md R31). -/
def Reg8.code : Reg8 → BitVec 3
  | .al => 0#3 | .cl => 1#3 | .dl => 2#3 | .bl => 3#3 | .ah => 4#3 | .ch => 5#3 | .dh => 6#3 | .bh => 7#3

/-- The byte register of a 3-bit number (10_state.md R31). -/
def Reg8.ofCode (c : BitVec 3) : Reg8 :=
  match c.toNat with
  | 0 => .al | 1 => .cl | 2 => .dl | 3 => .bl | 4 => .ah | 5 => .ch | 6 => .dh | _ => .bh

/-- The 2-bit number of a segment register (10_state.md R33). -/
def SReg.code : SReg → BitVec 2
  | .es => 0#2 | .cs => 1#2 | .ss => 2#2 | .ds => 3#2

/-- The segment register of a 2-bit number (10_state.md R33). -/
def SReg.ofCode (c : BitVec 2) : SReg :=
  match c.toNat with
  | 0 => .es | 1 => .cs | 2 => .ss | _ => .ds

/-- The `rm` code of a base and index (30_encoding.md R124). -/
def BaseIndex.code : BaseIndex → BitVec 3
  | .bxSi => 0#3 | .bxDi => 1#3 | .bpSi => 2#3 | .bpDi => 3#3 | .si => 4#3 | .di => 5#3 | .bp => 6#3 | .bx => 7#3

/-- The base and index of an `rm` code (30_encoding.md R124). -/
def BaseIndex.ofCode (c : BitVec 3) : BaseIndex :=
  match c.toNat with
  | 0 => .bxSi | 1 => .bxDi | 2 => .bpSi | 3 => .bpDi | 4 => .si | 5 => .di | 6 => .bp | _ => .bx

/-! ## The ModRM byte (R123: mod = 7:6, reg = 5:3, rm = 2:0) -/

/-- The ModRM byte of its three fields. -/
def modrmByte (mod : BitVec 2) (reg rm : BitVec 3) : Byte := (mod ++ reg ++ rm).setWidth 8

/-- Bits 7:6. -/
def modOf (m : Byte) : BitVec 2 := m.extractLsb' 6 2

/-- Bits 5:3. -/
def regOf (m : Byte) : BitVec 3 := m.extractLsb' 3 3

/-- Bits 2:0. -/
def rmOf (m : Byte) : BitVec 3 := m.extractLsb' 0 3

/-! ## Decoding -/

/-- Why a byte string has no decoding. Every complete byte string decodes: a form without a meaning
(46_undocumented.md R450) decodes to its own constructor, which `exec` refuses by name. -/
inductive Reject where
  /-- The bytes end before the instruction does. -/
  | truncated
  deriving DecidableEq, Repr

/-- The E operand of a ModRM byte and the bytes after it (R125, R126, R127), `regOfCode` naming the
registers of the operation's width. -/
def decodeRM {ρ : Type} (regOfCode : BitVec 3 → ρ) (m : Byte) (bs : List Byte) :
    Except Reject (RM ρ × List Byte) :=
  match (modOf m).toNat with
  | 0 =>
    if rmOf m = 6#3 then
      match bs with
      | lo :: hi :: r => .ok (.mem (.direct (mkWord hi lo)), r)
      | _ => .error .truncated
    else .ok (.mem (.base (BaseIndex.ofCode (rmOf m))), bs)
  | 1 =>
    match bs with
    | d :: r => .ok (.mem (.baseD8 (BaseIndex.ofCode (rmOf m)) d), r)
    | _ => .error .truncated
  | 2 =>
    match bs with
    | lo :: hi :: r => .ok (.mem (.baseD16 (BaseIndex.ofCode (rmOf m)) (mkWord hi lo)), r)
    | _ => .error .truncated
  | _ => .ok (.reg (regOfCode (rmOf m)), bs)

/-- What follows the opcode, or the ModRM byte and displacement: nothing, an immediate byte, an
immediate word, or an offset word and a segment word (R131). -/
inductive Tail where
  | done (i : Instr)
  | imm8 (f : Byte → Instr)
  | imm16 (f : Word → Instr)
  | far (f : Word → Word → Instr)

/-- What a ModRM byte selects: an E operand of byte or word registers and then a tail. A form that
46_undocumented.md R450 refuses has the length R132 gives its opcode too (log 17). -/
inductive ModForm where
  | rmB (f : RM Reg8 → Tail)
  | rmW (f : RM Reg → Tail)

/-- The format of an opcode byte (R121): a tail, or a ModRM byte whose reg field selects a form. -/
inductive Form where
  | plain (t : Tail)
  | modrm (f : BitVec 3 → ModForm)

/-- The bytes of a tail. -/
def Tail.run (bs : List Byte) : Tail → Except Reject (Instr × List Byte)
  | .done i => .ok (i, bs)
  | .imm8 f =>
    match bs with
    | b :: r => .ok (f b, r)
    | _ => .error .truncated
  | .imm16 f =>
    match bs with
    | lo :: hi :: r => .ok (f (mkWord hi lo), r)
    | _ => .error .truncated
  | .far f =>
    match bs with
    | a :: b :: c :: d :: r => .ok (f (mkWord b a) (mkWord d c), r)
    | _ => .error .truncated

/-- The bytes after a ModRM byte `m`. -/
def ModForm.run (m : Byte) (bs : List Byte) : ModForm → Except Reject (Instr × List Byte)
  | .rmB f =>
    match decodeRM Reg8.ofCode m bs with
    | .ok (e, r) => (f e).run r
    | .error x => .error x
  | .rmW f =>
    match decodeRM Reg.ofCode m bs with
    | .ok (e, r) => (f e).run r
    | .error x => .error x

/-- The bytes after an opcode byte. -/
def Form.run (bs : List Byte) : Form → Except Reject (Instr × List Byte)
  | .plain t => t.run bs
  | .modrm f =>
    match bs with
    | m :: r => (f (regOf m)).run m r
    | _ => .error .truncated

/-! ## Forms shared by many opcodes -/

/-- Eb,Gb and Gb,Eb. -/
def formEbGb (k : RM Reg8 → Reg8 → Instr) : Form :=
  .modrm fun reg => .rmB fun e => .done (k e (Reg8.ofCode reg))

/-- Ev,Gv and Gv,Ev. -/
def formEvGv (k : RM Reg → Reg → Instr) : Form :=
  .modrm fun reg => .rmW fun e => .done (k e (Reg.ofCode reg))

/-- No operand bytes. -/
def formOp (i : Instr) : Form := .plain (.done i)

/-! ## Groups (R136): the instruction that a ModRM reg field selects -/

/-- 80: Grp1 Eb,Ib. -/
def grp80 (e : RM Reg8) (imm : Byte) : Nat → Instr
  | 0 => .addEbIb e imm
  | 1 => .orEbIb e imm
  | 2 => .adcEbIb e imm
  | 3 => .sbbEbIb e imm
  | 4 => .andEbIb e imm
  | 5 => .subEbIb e imm
  | 6 => .xorEbIb e imm
  | _ => .cmpEbIb e imm

/-- 81: Grp1 Ev,Iv. -/
def grp81 (e : RM Reg) (imm : Word) : Nat → Instr
  | 0 => .addEvIv e imm
  | 1 => .orEvIv e imm
  | 2 => .adcEvIv e imm
  | 3 => .sbbEvIv e imm
  | 4 => .andEvIv e imm
  | 5 => .subEvIv e imm
  | 6 => .xorEvIv e imm
  | _ => .cmpEvIv e imm

/-- 82: Grp1 Eb,Ib, the undocumented second byte (46_undocumented.md R447). -/
def grp82 (e : RM Reg8) (imm : Byte) : Nat → Instr
  | 0 => .addEbIb82 e imm
  | 1 => .orEbIb82 e imm
  | 2 => .adcEbIb82 e imm
  | 3 => .sbbEbIb82 e imm
  | 4 => .andEbIb82 e imm
  | 5 => .subEbIb82 e imm
  | 6 => .xorEbIb82 e imm
  | _ => .cmpEbIb82 e imm

/-- 83: Grp1 Ev,Ib, the immediate sign-extended when it is used (R131). -/
def grp83 (e : RM Reg) (imm : Byte) : Nat → Instr
  | 0 => .addEvIbSx e imm
  | 1 => .orEvIbSx e imm
  | 2 => .adcEvIbSx e imm
  | 3 => .sbbEvIbSx e imm
  | 4 => .andEvIbSx e imm
  | 5 => .subEvIbSx e imm
  | 6 => .xorEvIbSx e imm
  | _ => .cmpEvIbSx e imm

/-- 8F: POP Ev. -/
def grp8F (reg : BitVec 3) : ModForm :=
  match reg.toNat with
  | 0 => .rmW fun e => .done (.popEv e)
  | 1 => .rmW fun e => .done (.refused8F1 e ())
  | 2 => .rmW fun e => .done (.refused8F2 e ())
  | 3 => .rmW fun e => .done (.refused8F3 e ())
  | 4 => .rmW fun e => .done (.refused8F4 e ())
  | 5 => .rmW fun e => .done (.refused8F5 e ())
  | 6 => .rmW fun e => .done (.refused8F6 e ())
  | _ => .rmW fun e => .done (.refused8F7 e ())

/-- C6: MOV Eb,Ib. -/
def grpC6 (reg : BitVec 3) : ModForm :=
  match reg.toNat with
  | 0 => .rmB fun e => .imm8 fun imm => .movEbIb e imm
  | 1 => .rmB fun e => .imm8 fun imm => .refusedC61 e imm
  | 2 => .rmB fun e => .imm8 fun imm => .refusedC62 e imm
  | 3 => .rmB fun e => .imm8 fun imm => .refusedC63 e imm
  | 4 => .rmB fun e => .imm8 fun imm => .refusedC64 e imm
  | 5 => .rmB fun e => .imm8 fun imm => .refusedC65 e imm
  | 6 => .rmB fun e => .imm8 fun imm => .refusedC66 e imm
  | _ => .rmB fun e => .imm8 fun imm => .refusedC67 e imm

/-- C7: MOV Ev,Iv. -/
def grpC7 (reg : BitVec 3) : ModForm :=
  match reg.toNat with
  | 0 => .rmW fun e => .imm16 fun imm => .movEvIv e imm
  | 1 => .rmW fun e => .imm16 fun imm => .refusedC71 e imm
  | 2 => .rmW fun e => .imm16 fun imm => .refusedC72 e imm
  | 3 => .rmW fun e => .imm16 fun imm => .refusedC73 e imm
  | 4 => .rmW fun e => .imm16 fun imm => .refusedC74 e imm
  | 5 => .rmW fun e => .imm16 fun imm => .refusedC75 e imm
  | 6 => .rmW fun e => .imm16 fun imm => .refusedC76 e imm
  | _ => .rmW fun e => .imm16 fun imm => .refusedC77 e imm

/-- D0: Grp2 Eb,1. -/
def grpD0 (reg : BitVec 3) : ModForm :=
  match reg.toNat with
  | 0 => .rmB fun e => .done (.rolEb1 e)
  | 1 => .rmB fun e => .done (.rorEb1 e)
  | 2 => .rmB fun e => .done (.rclEb1 e)
  | 3 => .rmB fun e => .done (.rcrEb1 e)
  | 4 => .rmB fun e => .done (.shlEb1 e)
  | 5 => .rmB fun e => .done (.shrEb1 e)
  | 6 => .rmB fun e => .done (.refusedD06 e ())
  | _ => .rmB fun e => .done (.sarEb1 e)

/-- D1: Grp2 Ev,1. -/
def grpD1 (reg : BitVec 3) : ModForm :=
  match reg.toNat with
  | 0 => .rmW fun e => .done (.rolEv1 e)
  | 1 => .rmW fun e => .done (.rorEv1 e)
  | 2 => .rmW fun e => .done (.rclEv1 e)
  | 3 => .rmW fun e => .done (.rcrEv1 e)
  | 4 => .rmW fun e => .done (.shlEv1 e)
  | 5 => .rmW fun e => .done (.shrEv1 e)
  | 6 => .rmW fun e => .done (.refusedD16 e ())
  | _ => .rmW fun e => .done (.sarEv1 e)

/-- D2: Grp2 Eb,CL. -/
def grpD2 (reg : BitVec 3) : ModForm :=
  match reg.toNat with
  | 0 => .rmB fun e => .done (.rolEbCl e)
  | 1 => .rmB fun e => .done (.rorEbCl e)
  | 2 => .rmB fun e => .done (.rclEbCl e)
  | 3 => .rmB fun e => .done (.rcrEbCl e)
  | 4 => .rmB fun e => .done (.shlEbCl e)
  | 5 => .rmB fun e => .done (.shrEbCl e)
  | 6 => .rmB fun e => .done (.refusedD26 e ())
  | _ => .rmB fun e => .done (.sarEbCl e)

/-- D3: Grp2 Ev,CL. -/
def grpD3 (reg : BitVec 3) : ModForm :=
  match reg.toNat with
  | 0 => .rmW fun e => .done (.rolEvCl e)
  | 1 => .rmW fun e => .done (.rorEvCl e)
  | 2 => .rmW fun e => .done (.rclEvCl e)
  | 3 => .rmW fun e => .done (.rcrEvCl e)
  | 4 => .rmW fun e => .done (.shlEvCl e)
  | 5 => .rmW fun e => .done (.shrEvCl e)
  | 6 => .rmW fun e => .done (.refusedD36 e ())
  | _ => .rmW fun e => .done (.sarEvCl e)

/-- F6: Grp3 Eb. -/
def grpF6 (reg : BitVec 3) : ModForm :=
  match reg.toNat with
  | 0 => .rmB fun e => .imm8 fun imm => .testEbIb e imm
  | 1 => .rmB fun e => .imm8 fun imm => .testEbIbF1 e imm
  | 2 => .rmB fun e => .done (.notEb e)
  | 3 => .rmB fun e => .done (.negEb e)
  | 4 => .rmB fun e => .done (.mulEb e)
  | 5 => .rmB fun e => .done (.imulEb e)
  | 6 => .rmB fun e => .done (.divEb e)
  | _ => .rmB fun e => .done (.idivEb e)

/-- F7: Grp3 Ev. -/
def grpF7 (reg : BitVec 3) : ModForm :=
  match reg.toNat with
  | 0 => .rmW fun e => .imm16 fun imm => .testEvIv e imm
  | 1 => .rmW fun e => .imm16 fun imm => .testEvIvF1 e imm
  | 2 => .rmW fun e => .done (.notEv e)
  | 3 => .rmW fun e => .done (.negEv e)
  | 4 => .rmW fun e => .done (.mulEv e)
  | 5 => .rmW fun e => .done (.imulEv e)
  | 6 => .rmW fun e => .done (.divEv e)
  | _ => .rmW fun e => .done (.idivEv e)

/-- FE: Grp4 Eb. -/
def grpFE (reg : BitVec 3) : ModForm :=
  match reg.toNat with
  | 0 => .rmB fun e => .done (.incEb e)
  | 1 => .rmB fun e => .done (.decEb e)
  | 2 => .rmB fun e => .done (.refusedFE2 e ())
  | 3 => .rmB fun e => .done (.refusedFE3 e ())
  | 4 => .rmB fun e => .done (.refusedFE4 e ())
  | 5 => .rmB fun e => .done (.refusedFE5 e ())
  | 6 => .rmB fun e => .done (.refusedFE6 e ())
  | _ => .rmB fun e => .done (.refusedFE7 e ())

/-- FF: Grp5 Ev. -/
def grpFF (reg : BitVec 3) : ModForm :=
  match reg.toNat with
  | 0 => .rmW fun e => .done (.incEv e)
  | 1 => .rmW fun e => .done (.decEv e)
  | 2 => .rmW fun e => .done (.callEv e)
  | 3 => .rmW fun e => .done (.callMp e)
  | 4 => .rmW fun e => .done (.jmpEv e)
  | 5 => .rmW fun e => .done (.jmpMp e)
  | 6 => .rmW fun e => .done (.pushEv e)
  | _ => .rmW fun e => .done (.refusedFF7 e ())

/-! ## The opcode map (R135), one definition per row of the map, by the low nibble -/

/-- Opcodes 00 to 0F. -/
def row0 : Nat → Form
  | 0x0 => formEbGb .addEbGb
  | 0x1 => formEvGv .addEvGv
  | 0x2 => formEbGb fun e g => .addGbEb g e
  | 0x3 => formEvGv fun e g => .addGvEv g e
  | 0x4 => .plain (.imm8 .addAlIb)
  | 0x5 => .plain (.imm16 .addAxIv)
  | 0x6 => formOp .pushEs
  | 0x7 => formOp .popEs
  | 0x8 => formEbGb .orEbGb
  | 0x9 => formEvGv .orEvGv
  | 0xA => formEbGb fun e g => .orGbEb g e
  | 0xB => formEvGv fun e g => .orGvEv g e
  | 0xC => .plain (.imm8 .orAlIb)
  | 0xD => .plain (.imm16 .orAxIv)
  | 0xE => formOp .pushCs
  | _ => formOp .popCs

/-- Opcodes 10 to 1F. -/
def row1 : Nat → Form
  | 0x0 => formEbGb .adcEbGb
  | 0x1 => formEvGv .adcEvGv
  | 0x2 => formEbGb fun e g => .adcGbEb g e
  | 0x3 => formEvGv fun e g => .adcGvEv g e
  | 0x4 => .plain (.imm8 .adcAlIb)
  | 0x5 => .plain (.imm16 .adcAxIv)
  | 0x6 => formOp .pushSs
  | 0x7 => formOp .popSs
  | 0x8 => formEbGb .sbbEbGb
  | 0x9 => formEvGv .sbbEvGv
  | 0xA => formEbGb fun e g => .sbbGbEb g e
  | 0xB => formEvGv fun e g => .sbbGvEv g e
  | 0xC => .plain (.imm8 .sbbAlIb)
  | 0xD => .plain (.imm16 .sbbAxIv)
  | 0xE => formOp .pushDs
  | _ => formOp .popDs

/-- Opcodes 20 to 2F. -/
def row2 : Nat → Form
  | 0x0 => formEbGb .andEbGb
  | 0x1 => formEvGv .andEvGv
  | 0x2 => formEbGb fun e g => .andGbEb g e
  | 0x3 => formEvGv fun e g => .andGvEv g e
  | 0x4 => .plain (.imm8 .andAlIb)
  | 0x5 => .plain (.imm16 .andAxIv)
  | 0x6 => formOp .segEs
  | 0x7 => formOp .daa
  | 0x8 => formEbGb .subEbGb
  | 0x9 => formEvGv .subEvGv
  | 0xA => formEbGb fun e g => .subGbEb g e
  | 0xB => formEvGv fun e g => .subGvEv g e
  | 0xC => .plain (.imm8 .subAlIb)
  | 0xD => .plain (.imm16 .subAxIv)
  | 0xE => formOp .segCs
  | _ => formOp .das

/-- Opcodes 30 to 3F. -/
def row3 : Nat → Form
  | 0x0 => formEbGb .xorEbGb
  | 0x1 => formEvGv .xorEvGv
  | 0x2 => formEbGb fun e g => .xorGbEb g e
  | 0x3 => formEvGv fun e g => .xorGvEv g e
  | 0x4 => .plain (.imm8 .xorAlIb)
  | 0x5 => .plain (.imm16 .xorAxIv)
  | 0x6 => formOp .segSs
  | 0x7 => formOp .aaa
  | 0x8 => formEbGb .cmpEbGb
  | 0x9 => formEvGv .cmpEvGv
  | 0xA => formEbGb fun e g => .cmpGbEb g e
  | 0xB => formEvGv fun e g => .cmpGvEv g e
  | 0xC => .plain (.imm8 .cmpAlIb)
  | 0xD => .plain (.imm16 .cmpAxIv)
  | 0xE => formOp .segDs
  | _ => formOp .aas

/-- Opcodes 40 to 4F. -/
def row4 : Nat → Form
  | 0x0 => formOp (.incR16 .ax)
  | 0x1 => formOp (.incR16 .cx)
  | 0x2 => formOp (.incR16 .dx)
  | 0x3 => formOp (.incR16 .bx)
  | 0x4 => formOp (.incR16 .sp)
  | 0x5 => formOp (.incR16 .bp)
  | 0x6 => formOp (.incR16 .si)
  | 0x7 => formOp (.incR16 .di)
  | 0x8 => formOp (.decR16 .ax)
  | 0x9 => formOp (.decR16 .cx)
  | 0xA => formOp (.decR16 .dx)
  | 0xB => formOp (.decR16 .bx)
  | 0xC => formOp (.decR16 .sp)
  | 0xD => formOp (.decR16 .bp)
  | 0xE => formOp (.decR16 .si)
  | _ => formOp (.decR16 .di)

/-- Opcodes 50 to 5F. -/
def row5 : Nat → Form
  | 0x0 => formOp (.pushR16 .ax)
  | 0x1 => formOp (.pushR16 .cx)
  | 0x2 => formOp (.pushR16 .dx)
  | 0x3 => formOp (.pushR16 .bx)
  | 0x4 => formOp (.pushR16 .sp)
  | 0x5 => formOp (.pushR16 .bp)
  | 0x6 => formOp (.pushR16 .si)
  | 0x7 => formOp (.pushR16 .di)
  | 0x8 => formOp (.popR16 .ax)
  | 0x9 => formOp (.popR16 .cx)
  | 0xA => formOp (.popR16 .dx)
  | 0xB => formOp (.popR16 .bx)
  | 0xC => formOp (.popR16 .sp)
  | 0xD => formOp (.popR16 .bp)
  | 0xE => formOp (.popR16 .si)
  | _ => formOp (.popR16 .di)

/-- Opcodes 60 to 6F. -/
def row6 : Nat → Form
  | 0x0 => .plain (.imm8 (.jccAlias 0x0#4))
  | 0x1 => .plain (.imm8 (.jccAlias 0x1#4))
  | 0x2 => .plain (.imm8 (.jccAlias 0x2#4))
  | 0x3 => .plain (.imm8 (.jccAlias 0x3#4))
  | 0x4 => .plain (.imm8 (.jccAlias 0x4#4))
  | 0x5 => .plain (.imm8 (.jccAlias 0x5#4))
  | 0x6 => .plain (.imm8 (.jccAlias 0x6#4))
  | 0x7 => .plain (.imm8 (.jccAlias 0x7#4))
  | 0x8 => .plain (.imm8 (.jccAlias 0x8#4))
  | 0x9 => .plain (.imm8 (.jccAlias 0x9#4))
  | 0xA => .plain (.imm8 (.jccAlias 0xA#4))
  | 0xB => .plain (.imm8 (.jccAlias 0xB#4))
  | 0xC => .plain (.imm8 (.jccAlias 0xC#4))
  | 0xD => .plain (.imm8 (.jccAlias 0xD#4))
  | 0xE => .plain (.imm8 (.jccAlias 0xE#4))
  | _ => .plain (.imm8 (.jccAlias 0xF#4))

/-- Opcodes 70 to 7F. -/
def row7 : Nat → Form
  | 0x0 => .plain (.imm8 .joRel8)
  | 0x1 => .plain (.imm8 .jnoRel8)
  | 0x2 => .plain (.imm8 .jbRel8)
  | 0x3 => .plain (.imm8 .jnbRel8)
  | 0x4 => .plain (.imm8 .jeRel8)
  | 0x5 => .plain (.imm8 .jneRel8)
  | 0x6 => .plain (.imm8 .jbeRel8)
  | 0x7 => .plain (.imm8 .jaRel8)
  | 0x8 => .plain (.imm8 .jsRel8)
  | 0x9 => .plain (.imm8 .jnsRel8)
  | 0xA => .plain (.imm8 .jpRel8)
  | 0xB => .plain (.imm8 .jnpRel8)
  | 0xC => .plain (.imm8 .jlRel8)
  | 0xD => .plain (.imm8 .jgeRel8)
  | 0xE => .plain (.imm8 .jleRel8)
  | _ => .plain (.imm8 .jgRel8)

/-- Opcodes 80 to 8F. -/
def row8 : Nat → Form
  | 0x0 => .modrm fun reg => .rmB fun e => .imm8 fun imm => grp80 e imm reg.toNat
  | 0x1 => .modrm fun reg => .rmW fun e => .imm16 fun imm => grp81 e imm reg.toNat
  | 0x2 => .modrm fun reg => .rmB fun e => .imm8 fun imm => grp82 e imm reg.toNat
  | 0x3 => .modrm fun reg => .rmW fun e => .imm8 fun imm => grp83 e imm reg.toNat
  | 0x4 => formEbGb .testEbGb
  | 0x5 => formEvGv .testEvGv
  | 0x6 => formEbGb .xchgEbGb
  | 0x7 => formEvGv .xchgEvGv
  | 0x8 => formEbGb .movEbGb
  | 0x9 => formEvGv .movEvGv
  | 0xA => formEbGb fun e g => .movGbEb g e
  | 0xB => formEvGv fun e g => .movGvEv g e
  | 0xC => .modrm fun reg => .rmW fun e => .done (if reg.toNat < 4 then .movEwSreg e (SReg.ofCode (reg.setWidth 2)) else .movEwSregBad (reg.setWidth 2) e)
  | 0xD => formEvGv fun e g => .leaGvM g e
  | 0xE => .modrm fun reg => .rmW fun e => .done (if reg.toNat < 4 then .movSregEw (SReg.ofCode (reg.setWidth 2)) e else .movSregEwBad (reg.setWidth 2) e)
  | _ => .modrm grp8F

/-- Opcodes 90 to 9F. -/
def row9 : Nat → Form
  | 0x0 => formOp .nop
  | 0x1 => formOp .xchgAxCx
  | 0x2 => formOp .xchgAxDx
  | 0x3 => formOp .xchgAxBx
  | 0x4 => formOp .xchgAxSp
  | 0x5 => formOp .xchgAxBp
  | 0x6 => formOp .xchgAxSi
  | 0x7 => formOp .xchgAxDi
  | 0x8 => formOp .cbw
  | 0x9 => formOp .cwd
  | 0xA => .plain (.far .callAp)
  | 0xB => formOp .wait
  | 0xC => formOp .pushf
  | 0xD => formOp .popf
  | 0xE => formOp .sahf
  | _ => formOp .lahf

/-- Opcodes A0 to AF. -/
def rowA : Nat → Form
  | 0x0 => .plain (.imm16 .movAlOb)
  | 0x1 => .plain (.imm16 .movAxOv)
  | 0x2 => .plain (.imm16 .movObAl)
  | 0x3 => .plain (.imm16 .movOvAx)
  | 0x4 => formOp .movsb
  | 0x5 => formOp .movsw
  | 0x6 => formOp .cmpsb
  | 0x7 => formOp .cmpsw
  | 0x8 => .plain (.imm8 .testAlIb)
  | 0x9 => .plain (.imm16 .testAxIv)
  | 0xA => formOp .stosb
  | 0xB => formOp .stosw
  | 0xC => formOp .lodsb
  | 0xD => formOp .lodsw
  | 0xE => formOp .scasb
  | _ => formOp .scasw

/-- Opcodes B0 to BF. -/
def rowB : Nat → Form
  | 0x0 => .plain (.imm8 (.movR8Ib .al))
  | 0x1 => .plain (.imm8 (.movR8Ib .cl))
  | 0x2 => .plain (.imm8 (.movR8Ib .dl))
  | 0x3 => .plain (.imm8 (.movR8Ib .bl))
  | 0x4 => .plain (.imm8 (.movR8Ib .ah))
  | 0x5 => .plain (.imm8 (.movR8Ib .ch))
  | 0x6 => .plain (.imm8 (.movR8Ib .dh))
  | 0x7 => .plain (.imm8 (.movR8Ib .bh))
  | 0x8 => .plain (.imm16 (.movR16Iv .ax))
  | 0x9 => .plain (.imm16 (.movR16Iv .cx))
  | 0xA => .plain (.imm16 (.movR16Iv .dx))
  | 0xB => .plain (.imm16 (.movR16Iv .bx))
  | 0xC => .plain (.imm16 (.movR16Iv .sp))
  | 0xD => .plain (.imm16 (.movR16Iv .bp))
  | 0xE => .plain (.imm16 (.movR16Iv .si))
  | _ => .plain (.imm16 (.movR16Iv .di))

/-- Opcodes C0 to CF. -/
def rowC : Nat → Form
  | 0x0 => .plain (.imm16 .retIwC0)
  | 0x1 => formOp .retC1
  | 0x2 => .plain (.imm16 .retIw)
  | 0x3 => formOp .ret
  | 0x4 => formEvGv fun e g => .lesGvMp g e
  | 0x5 => formEvGv fun e g => .ldsGvMp g e
  | 0x6 => .modrm grpC6
  | 0x7 => .modrm grpC7
  | 0x8 => .plain (.imm16 .retfIwC8)
  | 0x9 => formOp .retfC9
  | 0xA => .plain (.imm16 .retfIw)
  | 0xB => formOp .retf
  | 0xC => formOp .int3
  | 0xD => .plain (.imm8 .intIb)
  | 0xE => formOp .into
  | _ => formOp .iret

/-- Opcodes D0 to DF. -/
def rowD : Nat → Form
  | 0x0 => .modrm grpD0
  | 0x1 => .modrm grpD1
  | 0x2 => .modrm grpD2
  | 0x3 => .modrm grpD3
  | 0x4 => .plain (.imm8 .aamIb)
  | 0x5 => .plain (.imm8 .aadIb)
  | 0x6 => formOp .salc
  | 0x7 => formOp .xlat
  | 0x8 => .modrm fun reg => .rmW fun e => .done (.esc 0#3 reg e)
  | 0x9 => .modrm fun reg => .rmW fun e => .done (.esc 1#3 reg e)
  | 0xA => .modrm fun reg => .rmW fun e => .done (.esc 2#3 reg e)
  | 0xB => .modrm fun reg => .rmW fun e => .done (.esc 3#3 reg e)
  | 0xC => .modrm fun reg => .rmW fun e => .done (.esc 4#3 reg e)
  | 0xD => .modrm fun reg => .rmW fun e => .done (.esc 5#3 reg e)
  | 0xE => .modrm fun reg => .rmW fun e => .done (.esc 6#3 reg e)
  | _ => .modrm fun reg => .rmW fun e => .done (.esc 7#3 reg e)

/-- Opcodes E0 to EF. -/
def rowE : Nat → Form
  | 0x0 => .plain (.imm8 .loopnzRel8)
  | 0x1 => .plain (.imm8 .loopzRel8)
  | 0x2 => .plain (.imm8 .loopRel8)
  | 0x3 => .plain (.imm8 .jcxzRel8)
  | 0x4 => .plain (.imm8 .inAlIb)
  | 0x5 => .plain (.imm8 .inAxIb)
  | 0x6 => .plain (.imm8 .outIbAl)
  | 0x7 => .plain (.imm8 .outIbAx)
  | 0x8 => .plain (.imm16 .callRel16)
  | 0x9 => .plain (.imm16 .jmpRel16)
  | 0xA => .plain (.far .jmpAp)
  | 0xB => .plain (.imm8 .jmpRel8)
  | 0xC => formOp .inAlDx
  | 0xD => formOp .inAxDx
  | 0xE => formOp .outDxAl
  | _ => formOp .outDxAx

/-- Opcodes F0 to FF. -/
def rowF : Nat → Form
  | 0x0 => formOp .lock
  | 0x1 => formOp .lockF1
  | 0x2 => formOp .repne
  | 0x3 => formOp .repe
  | 0x4 => formOp .hlt
  | 0x5 => formOp .cmc
  | 0x6 => .modrm grpF6
  | 0x7 => .modrm grpF7
  | 0x8 => formOp .clc
  | 0x9 => formOp .stc
  | 0xA => formOp .cli
  | 0xB => formOp .sti
  | 0xC => formOp .cld
  | 0xD => formOp .std
  | 0xE => .modrm grpFE
  | _ => .modrm grpFF

/-- The opcode map: the high nibble selects the row, the low nibble the column. -/
def knownForm (b : Byte) : Form :=
  match b.toNat / 16 with
  | 0x0 => row0 (b.toNat % 16)
  | 0x1 => row1 (b.toNat % 16)
  | 0x2 => row2 (b.toNat % 16)
  | 0x3 => row3 (b.toNat % 16)
  | 0x4 => row4 (b.toNat % 16)
  | 0x5 => row5 (b.toNat % 16)
  | 0x6 => row6 (b.toNat % 16)
  | 0x7 => row7 (b.toNat % 16)
  | 0x8 => row8 (b.toNat % 16)
  | 0x9 => row9 (b.toNat % 16)
  | 0xA => rowA (b.toNat % 16)
  | 0xB => rowB (b.toNat % 16)
  | 0xC => rowC (b.toNat % 16)
  | 0xD => rowD (b.toNat % 16)
  | 0xE => rowE (b.toNat % 16)
  | _ => rowF (b.toNat % 16)

/-- The bytes marked `*` in R135 that are whole opcodes: outside the known set under
`P_UNDOC_OPCODES = noop` (46_undocumented.md R440). -/
def undocByte (b : Byte) : Bool :=
  b == 0x0F#8 || b.toNat / 16 == 6 || b == 0x82#8 || b == 0xC0#8 || b == 0xC1#8 || b == 0xC8#8 ||
    b == 0xC9#8 || b == 0xD6#8 || b == 0xF1#8

/-- The format of an opcode byte under the parameters: a byte outside the known set is an unknown
opcode of one byte (R137, 46_undocumented.md R449). -/
def opForm (cfg : Config) (b : Byte) : Form :=
  if cfg.undoc = .noop ∧ undocByte b = true then formOp (.unknownOpcode b) else knownForm b

/-- The instruction at the front of a byte string and the bytes after it. A segment-override, LOCK
or REP byte is an instruction of its own here: `step` runs it and goes on to the next (R134; log 13). -/
def decode (cfg : Config) : List Byte → Except Reject (Instr × List Byte)
  | op :: r => (opForm cfg op).run r
  | [] => .error .truncated

/-! ## Encoding, from the same tables -/

/-- The bytes of a word operand, low byte first (R83). -/
def wordBytes (w : Word) : List Byte := [loByte w, hiByte w]

/-- The ModRM byte with the given reg field, and the displacement, of a memory operand (R124, R125,
R127). -/
def MemRef.encode (reg : BitVec 3) : MemRef → List Byte
  | .direct off => modrmByte 0#2 reg 6#3 :: wordBytes off
  | .base b => [modrmByte 0#2 reg b.code]
  | .baseD8 b d => [modrmByte 1#2 reg b.code, d]
  | .baseD16 b d => modrmByte 2#2 reg b.code :: wordBytes d

/-- The ModRM byte and displacement of an E operand with byte registers. -/
def encB (reg : BitVec 3) : RM Reg8 → List Byte
  | .reg r => [modrmByte 3#2 reg r.code]
  | .mem m => m.encode reg

/-- The ModRM byte and displacement of an E operand with word registers. -/
def encW (reg : BitVec 3) : RM Reg → List Byte
  | .reg r => [modrmByte 3#2 reg r.code]
  | .mem m => m.encode reg

/-- An opcode byte with a register number in bits 2:0 (R122). -/
def opPlus (op : Byte) (c : BitVec 3) : Byte := op ||| c.setWidth 8

/-- The bytes of an instruction. -/
def encode : Instr → List Byte
  | .addEbGb e g => 0x00#8 :: encB g.code e
  | .addEvGv e g => 0x01#8 :: encW g.code e
  | .addGbEb g e => 0x02#8 :: encB g.code e
  | .addGvEv g e => 0x03#8 :: encW g.code e
  | .addAlIb imm => [0x04#8, imm]
  | .addAxIv imm => 0x05#8 :: wordBytes imm
  | .orEbGb e g => 0x08#8 :: encB g.code e
  | .orEvGv e g => 0x09#8 :: encW g.code e
  | .orGbEb g e => 0x0A#8 :: encB g.code e
  | .orGvEv g e => 0x0B#8 :: encW g.code e
  | .orAlIb imm => [0x0C#8, imm]
  | .orAxIv imm => 0x0D#8 :: wordBytes imm
  | .adcEbGb e g => 0x10#8 :: encB g.code e
  | .adcEvGv e g => 0x11#8 :: encW g.code e
  | .adcGbEb g e => 0x12#8 :: encB g.code e
  | .adcGvEv g e => 0x13#8 :: encW g.code e
  | .adcAlIb imm => [0x14#8, imm]
  | .adcAxIv imm => 0x15#8 :: wordBytes imm
  | .sbbEbGb e g => 0x18#8 :: encB g.code e
  | .sbbEvGv e g => 0x19#8 :: encW g.code e
  | .sbbGbEb g e => 0x1A#8 :: encB g.code e
  | .sbbGvEv g e => 0x1B#8 :: encW g.code e
  | .sbbAlIb imm => [0x1C#8, imm]
  | .sbbAxIv imm => 0x1D#8 :: wordBytes imm
  | .andEbGb e g => 0x20#8 :: encB g.code e
  | .andEvGv e g => 0x21#8 :: encW g.code e
  | .andGbEb g e => 0x22#8 :: encB g.code e
  | .andGvEv g e => 0x23#8 :: encW g.code e
  | .andAlIb imm => [0x24#8, imm]
  | .andAxIv imm => 0x25#8 :: wordBytes imm
  | .subEbGb e g => 0x28#8 :: encB g.code e
  | .subEvGv e g => 0x29#8 :: encW g.code e
  | .subGbEb g e => 0x2A#8 :: encB g.code e
  | .subGvEv g e => 0x2B#8 :: encW g.code e
  | .subAlIb imm => [0x2C#8, imm]
  | .subAxIv imm => 0x2D#8 :: wordBytes imm
  | .xorEbGb e g => 0x30#8 :: encB g.code e
  | .xorEvGv e g => 0x31#8 :: encW g.code e
  | .xorGbEb g e => 0x32#8 :: encB g.code e
  | .xorGvEv g e => 0x33#8 :: encW g.code e
  | .xorAlIb imm => [0x34#8, imm]
  | .xorAxIv imm => 0x35#8 :: wordBytes imm
  | .cmpEbGb e g => 0x38#8 :: encB g.code e
  | .cmpEvGv e g => 0x39#8 :: encW g.code e
  | .cmpGbEb g e => 0x3A#8 :: encB g.code e
  | .cmpGvEv g e => 0x3B#8 :: encW g.code e
  | .cmpAlIb imm => [0x3C#8, imm]
  | .cmpAxIv imm => 0x3D#8 :: wordBytes imm
  | .pushEs => [0x06#8]
  | .pushCs => [0x0E#8]
  | .pushSs => [0x16#8]
  | .pushDs => [0x1E#8]
  | .popEs => [0x07#8]
  | .popSs => [0x17#8]
  | .popDs => [0x1F#8]
  | .popCs => [0x0F#8]
  | .segEs => [0x26#8]
  | .segCs => [0x2E#8]
  | .segSs => [0x36#8]
  | .segDs => [0x3E#8]
  | .daa => [0x27#8]
  | .das => [0x2F#8]
  | .aaa => [0x37#8]
  | .aas => [0x3F#8]
  | .incR16 r => [opPlus 0x40#8 r.code]
  | .decR16 r => [opPlus 0x48#8 r.code]
  | .pushR16 r => [opPlus 0x50#8 r.code]
  | .popR16 r => [opPlus 0x58#8 r.code]
  | .jccAlias cc rel => [0x60#8 ||| cc.setWidth 8, rel]
  | .joRel8 rel => [0x70#8, rel]
  | .jnoRel8 rel => [0x71#8, rel]
  | .jbRel8 rel => [0x72#8, rel]
  | .jnbRel8 rel => [0x73#8, rel]
  | .jeRel8 rel => [0x74#8, rel]
  | .jneRel8 rel => [0x75#8, rel]
  | .jbeRel8 rel => [0x76#8, rel]
  | .jaRel8 rel => [0x77#8, rel]
  | .jsRel8 rel => [0x78#8, rel]
  | .jnsRel8 rel => [0x79#8, rel]
  | .jpRel8 rel => [0x7A#8, rel]
  | .jnpRel8 rel => [0x7B#8, rel]
  | .jlRel8 rel => [0x7C#8, rel]
  | .jgeRel8 rel => [0x7D#8, rel]
  | .jleRel8 rel => [0x7E#8, rel]
  | .jgRel8 rel => [0x7F#8, rel]
  | .addEbIb e imm => 0x80#8 :: (encB 0#3 e ++ [imm])
  | .orEbIb e imm => 0x80#8 :: (encB 1#3 e ++ [imm])
  | .adcEbIb e imm => 0x80#8 :: (encB 2#3 e ++ [imm])
  | .sbbEbIb e imm => 0x80#8 :: (encB 3#3 e ++ [imm])
  | .andEbIb e imm => 0x80#8 :: (encB 4#3 e ++ [imm])
  | .subEbIb e imm => 0x80#8 :: (encB 5#3 e ++ [imm])
  | .xorEbIb e imm => 0x80#8 :: (encB 6#3 e ++ [imm])
  | .cmpEbIb e imm => 0x80#8 :: (encB 7#3 e ++ [imm])
  | .addEvIv e imm => 0x81#8 :: (encW 0#3 e ++ wordBytes imm)
  | .orEvIv e imm => 0x81#8 :: (encW 1#3 e ++ wordBytes imm)
  | .adcEvIv e imm => 0x81#8 :: (encW 2#3 e ++ wordBytes imm)
  | .sbbEvIv e imm => 0x81#8 :: (encW 3#3 e ++ wordBytes imm)
  | .andEvIv e imm => 0x81#8 :: (encW 4#3 e ++ wordBytes imm)
  | .subEvIv e imm => 0x81#8 :: (encW 5#3 e ++ wordBytes imm)
  | .xorEvIv e imm => 0x81#8 :: (encW 6#3 e ++ wordBytes imm)
  | .cmpEvIv e imm => 0x81#8 :: (encW 7#3 e ++ wordBytes imm)
  | .addEbIb82 e imm => 0x82#8 :: (encB 0#3 e ++ [imm])
  | .orEbIb82 e imm => 0x82#8 :: (encB 1#3 e ++ [imm])
  | .adcEbIb82 e imm => 0x82#8 :: (encB 2#3 e ++ [imm])
  | .sbbEbIb82 e imm => 0x82#8 :: (encB 3#3 e ++ [imm])
  | .andEbIb82 e imm => 0x82#8 :: (encB 4#3 e ++ [imm])
  | .subEbIb82 e imm => 0x82#8 :: (encB 5#3 e ++ [imm])
  | .xorEbIb82 e imm => 0x82#8 :: (encB 6#3 e ++ [imm])
  | .cmpEbIb82 e imm => 0x82#8 :: (encB 7#3 e ++ [imm])
  | .addEvIbSx e imm => 0x83#8 :: (encW 0#3 e ++ [imm])
  | .orEvIbSx e imm => 0x83#8 :: (encW 1#3 e ++ [imm])
  | .adcEvIbSx e imm => 0x83#8 :: (encW 2#3 e ++ [imm])
  | .sbbEvIbSx e imm => 0x83#8 :: (encW 3#3 e ++ [imm])
  | .andEvIbSx e imm => 0x83#8 :: (encW 4#3 e ++ [imm])
  | .subEvIbSx e imm => 0x83#8 :: (encW 5#3 e ++ [imm])
  | .xorEvIbSx e imm => 0x83#8 :: (encW 6#3 e ++ [imm])
  | .cmpEvIbSx e imm => 0x83#8 :: (encW 7#3 e ++ [imm])
  | .testEbGb e g => 0x84#8 :: encB g.code e
  | .testEvGv e g => 0x85#8 :: encW g.code e
  | .xchgEbGb e g => 0x86#8 :: encB g.code e
  | .xchgEvGv e g => 0x87#8 :: encW g.code e
  | .movEbGb e g => 0x88#8 :: encB g.code e
  | .movEvGv e g => 0x89#8 :: encW g.code e
  | .movGbEb g e => 0x8A#8 :: encB g.code e
  | .movGvEv g e => 0x8B#8 :: encW g.code e
  | .movEwSreg e sr => 0x8C#8 :: encW (sr.code.setWidth 3) e
  | .movEwSregBad x e => 0x8C#8 :: encW (1#1 ++ x) e
  | .leaGvM g e => 0x8D#8 :: encW g.code e
  | .movSregEw sr e => 0x8E#8 :: encW (sr.code.setWidth 3) e
  | .movSregEwBad x e => 0x8E#8 :: encW (1#1 ++ x) e
  | .popEv e => 0x8F#8 :: encW 0#3 e
  | .refused8F1 e _ => 0x8F#8 :: encW 1#3 e
  | .refused8F2 e _ => 0x8F#8 :: encW 2#3 e
  | .refused8F3 e _ => 0x8F#8 :: encW 3#3 e
  | .refused8F4 e _ => 0x8F#8 :: encW 4#3 e
  | .refused8F5 e _ => 0x8F#8 :: encW 5#3 e
  | .refused8F6 e _ => 0x8F#8 :: encW 6#3 e
  | .refused8F7 e _ => 0x8F#8 :: encW 7#3 e
  | .nop => [0x90#8]
  | .xchgAxCx => [0x91#8]
  | .xchgAxDx => [0x92#8]
  | .xchgAxBx => [0x93#8]
  | .xchgAxSp => [0x94#8]
  | .xchgAxBp => [0x95#8]
  | .xchgAxSi => [0x96#8]
  | .xchgAxDi => [0x97#8]
  | .cbw => [0x98#8]
  | .cwd => [0x99#8]
  | .callAp off sg => 0x9A#8 :: (wordBytes off ++ wordBytes sg)
  | .wait => [0x9B#8]
  | .pushf => [0x9C#8]
  | .popf => [0x9D#8]
  | .sahf => [0x9E#8]
  | .lahf => [0x9F#8]
  | .movAlOb off => 0xA0#8 :: wordBytes off
  | .movAxOv off => 0xA1#8 :: wordBytes off
  | .movObAl off => 0xA2#8 :: wordBytes off
  | .movOvAx off => 0xA3#8 :: wordBytes off
  | .movsb => [0xA4#8]
  | .movsw => [0xA5#8]
  | .cmpsb => [0xA6#8]
  | .cmpsw => [0xA7#8]
  | .stosb => [0xAA#8]
  | .stosw => [0xAB#8]
  | .lodsb => [0xAC#8]
  | .lodsw => [0xAD#8]
  | .scasb => [0xAE#8]
  | .scasw => [0xAF#8]
  | .testAlIb imm => [0xA8#8, imm]
  | .testAxIv imm => 0xA9#8 :: wordBytes imm
  | .movR8Ib r imm => [opPlus 0xB0#8 r.code, imm]
  | .movR16Iv r imm => opPlus 0xB8#8 r.code :: wordBytes imm
  | .retIwC0 imm => 0xC0#8 :: wordBytes imm
  | .retC1 => [0xC1#8]
  | .retIw imm => 0xC2#8 :: wordBytes imm
  | .ret => [0xC3#8]
  | .lesGvMp g e => 0xC4#8 :: encW g.code e
  | .ldsGvMp g e => 0xC5#8 :: encW g.code e
  | .movEbIb e imm => 0xC6#8 :: (encB 0#3 e ++ [imm])
  | .movEvIv e imm => 0xC7#8 :: (encW 0#3 e ++ wordBytes imm)
  | .refusedC61 e imm => 0xC6#8 :: (encB 1#3 e ++ [imm])
  | .refusedC62 e imm => 0xC6#8 :: (encB 2#3 e ++ [imm])
  | .refusedC63 e imm => 0xC6#8 :: (encB 3#3 e ++ [imm])
  | .refusedC64 e imm => 0xC6#8 :: (encB 4#3 e ++ [imm])
  | .refusedC65 e imm => 0xC6#8 :: (encB 5#3 e ++ [imm])
  | .refusedC66 e imm => 0xC6#8 :: (encB 6#3 e ++ [imm])
  | .refusedC67 e imm => 0xC6#8 :: (encB 7#3 e ++ [imm])
  | .refusedC71 e imm => 0xC7#8 :: (encW 1#3 e ++ wordBytes imm)
  | .refusedC72 e imm => 0xC7#8 :: (encW 2#3 e ++ wordBytes imm)
  | .refusedC73 e imm => 0xC7#8 :: (encW 3#3 e ++ wordBytes imm)
  | .refusedC74 e imm => 0xC7#8 :: (encW 4#3 e ++ wordBytes imm)
  | .refusedC75 e imm => 0xC7#8 :: (encW 5#3 e ++ wordBytes imm)
  | .refusedC76 e imm => 0xC7#8 :: (encW 6#3 e ++ wordBytes imm)
  | .refusedC77 e imm => 0xC7#8 :: (encW 7#3 e ++ wordBytes imm)
  | .retfIwC8 imm => 0xC8#8 :: wordBytes imm
  | .retfC9 => [0xC9#8]
  | .retfIw imm => 0xCA#8 :: wordBytes imm
  | .retf => [0xCB#8]
  | .int3 => [0xCC#8]
  | .intIb imm => [0xCD#8, imm]
  | .into => [0xCE#8]
  | .iret => [0xCF#8]
  | .rolEb1 e => 0xD0#8 :: encB 0#3 e
  | .rorEb1 e => 0xD0#8 :: encB 1#3 e
  | .rclEb1 e => 0xD0#8 :: encB 2#3 e
  | .rcrEb1 e => 0xD0#8 :: encB 3#3 e
  | .shlEb1 e => 0xD0#8 :: encB 4#3 e
  | .shrEb1 e => 0xD0#8 :: encB 5#3 e
  | .refusedD06 e _ => 0xD0#8 :: encB 6#3 e
  | .sarEb1 e => 0xD0#8 :: encB 7#3 e
  | .rolEv1 e => 0xD1#8 :: encW 0#3 e
  | .rorEv1 e => 0xD1#8 :: encW 1#3 e
  | .rclEv1 e => 0xD1#8 :: encW 2#3 e
  | .rcrEv1 e => 0xD1#8 :: encW 3#3 e
  | .shlEv1 e => 0xD1#8 :: encW 4#3 e
  | .shrEv1 e => 0xD1#8 :: encW 5#3 e
  | .refusedD16 e _ => 0xD1#8 :: encW 6#3 e
  | .sarEv1 e => 0xD1#8 :: encW 7#3 e
  | .rolEbCl e => 0xD2#8 :: encB 0#3 e
  | .rorEbCl e => 0xD2#8 :: encB 1#3 e
  | .rclEbCl e => 0xD2#8 :: encB 2#3 e
  | .rcrEbCl e => 0xD2#8 :: encB 3#3 e
  | .shlEbCl e => 0xD2#8 :: encB 4#3 e
  | .shrEbCl e => 0xD2#8 :: encB 5#3 e
  | .refusedD26 e _ => 0xD2#8 :: encB 6#3 e
  | .sarEbCl e => 0xD2#8 :: encB 7#3 e
  | .rolEvCl e => 0xD3#8 :: encW 0#3 e
  | .rorEvCl e => 0xD3#8 :: encW 1#3 e
  | .rclEvCl e => 0xD3#8 :: encW 2#3 e
  | .rcrEvCl e => 0xD3#8 :: encW 3#3 e
  | .shlEvCl e => 0xD3#8 :: encW 4#3 e
  | .shrEvCl e => 0xD3#8 :: encW 5#3 e
  | .refusedD36 e _ => 0xD3#8 :: encW 6#3 e
  | .sarEvCl e => 0xD3#8 :: encW 7#3 e
  | .aamIb imm => [0xD4#8, imm]
  | .aadIb imm => [0xD5#8, imm]
  | .salc => [0xD6#8]
  | .xlat => [0xD7#8]
  | .esc x y e => opPlus 0xD8#8 x :: encW y e
  | .loopnzRel8 rel => [0xE0#8, rel]
  | .loopzRel8 rel => [0xE1#8, rel]
  | .loopRel8 rel => [0xE2#8, rel]
  | .jcxzRel8 rel => [0xE3#8, rel]
  | .inAlIb imm => [0xE4#8, imm]
  | .inAxIb imm => [0xE5#8, imm]
  | .outIbAl imm => [0xE6#8, imm]
  | .outIbAx imm => [0xE7#8, imm]
  | .callRel16 rel => 0xE8#8 :: wordBytes rel
  | .jmpRel16 rel => 0xE9#8 :: wordBytes rel
  | .jmpAp off sg => 0xEA#8 :: (wordBytes off ++ wordBytes sg)
  | .jmpRel8 rel => [0xEB#8, rel]
  | .inAlDx => [0xEC#8]
  | .inAxDx => [0xED#8]
  | .outDxAl => [0xEE#8]
  | .outDxAx => [0xEF#8]
  | .lock => [0xF0#8]
  | .lockF1 => [0xF1#8]
  | .repne => [0xF2#8]
  | .repe => [0xF3#8]
  | .hlt => [0xF4#8]
  | .cmc => [0xF5#8]
  | .testEbIb e imm => 0xF6#8 :: (encB 0#3 e ++ [imm])
  | .testEbIbF1 e imm => 0xF6#8 :: (encB 1#3 e ++ [imm])
  | .notEb e => 0xF6#8 :: encB 2#3 e
  | .negEb e => 0xF6#8 :: encB 3#3 e
  | .mulEb e => 0xF6#8 :: encB 4#3 e
  | .imulEb e => 0xF6#8 :: encB 5#3 e
  | .divEb e => 0xF6#8 :: encB 6#3 e
  | .idivEb e => 0xF6#8 :: encB 7#3 e
  | .testEvIv e imm => 0xF7#8 :: (encW 0#3 e ++ wordBytes imm)
  | .testEvIvF1 e imm => 0xF7#8 :: (encW 1#3 e ++ wordBytes imm)
  | .notEv e => 0xF7#8 :: encW 2#3 e
  | .negEv e => 0xF7#8 :: encW 3#3 e
  | .mulEv e => 0xF7#8 :: encW 4#3 e
  | .imulEv e => 0xF7#8 :: encW 5#3 e
  | .divEv e => 0xF7#8 :: encW 6#3 e
  | .idivEv e => 0xF7#8 :: encW 7#3 e
  | .clc => [0xF8#8]
  | .stc => [0xF9#8]
  | .cli => [0xFA#8]
  | .sti => [0xFB#8]
  | .cld => [0xFC#8]
  | .std => [0xFD#8]
  | .incEb e => 0xFE#8 :: encB 0#3 e
  | .decEb e => 0xFE#8 :: encB 1#3 e
  | .refusedFE2 e _ => 0xFE#8 :: encB 2#3 e
  | .refusedFE3 e _ => 0xFE#8 :: encB 3#3 e
  | .refusedFE4 e _ => 0xFE#8 :: encB 4#3 e
  | .refusedFE5 e _ => 0xFE#8 :: encB 5#3 e
  | .refusedFE6 e _ => 0xFE#8 :: encB 6#3 e
  | .refusedFE7 e _ => 0xFE#8 :: encB 7#3 e
  | .incEv e => 0xFF#8 :: encW 0#3 e
  | .decEv e => 0xFF#8 :: encW 1#3 e
  | .callEv e => 0xFF#8 :: encW 2#3 e
  | .callMp e => 0xFF#8 :: encW 3#3 e
  | .jmpEv e => 0xFF#8 :: encW 4#3 e
  | .jmpMp e => 0xFF#8 :: encW 5#3 e
  | .pushEv e => 0xFF#8 :: encW 6#3 e
  | .refusedFF7 e _ => 0xFF#8 :: encW 7#3 e
  | .unknownOpcode b => [b]

/-! ## The table's word numbering -/

/-- `n` bytes of a word, bit 0 being the least significant bit of the first byte; the bytes of the
word stand in memory in that order (20_memory.md R83). -/
def tableBytes : Nat → Nat → List Byte
  | 0, _ => []
  | n + 1, w => BitVec.ofNat 8 w :: tableBytes n (w / 256)

/-- The longest instruction without the prefix bytes, in bytes (R120). -/
def maxInstrBytes : Nat := 6

/-- The bytes of a table word of `nbits` bits: every byte above them, up to the longest instruction,
is zero. -/
def tableWordBytes (nbits w : Nat) : List Byte :=
  tableBytes (nbits / 8) w ++ List.replicate maxInstrBytes 0#8

/-- The instruction that the decoder, under the default parameters, reads from a table word. -/
def decodeTableWord (nbits w : Nat) : Option Instr :=
  match decode Config.standard (tableWordBytes nbits w) with
  | .ok (i, _) => some i
  | .error _ => none

end Sys2Proof
end

