-- ==== Sys2Proof/Machine/State.lean ====
section
/-! DEFINITION. The machine's state as plain data (10_state.md), why a step can stop, memory's form and
the state after reset (10_state.md R51, 70_reset_and_hazards.md R550). -/

namespace Sys2Proof.Machine

open Sys2Proof

/-- The eight general registers (10_state.md R30). -/
structure Regs where
  ax : Word
  cx : Word
  dx : Word
  bx : Word
  sp : Word
  bp : Word
  si : Word
  di : Word
  deriving DecidableEq, Repr

/-- The four segment registers (10_state.md R33). -/
structure Segs where
  es : Word
  cs : Word
  ss : Word
  ds : Word
  deriving DecidableEq, Repr

/-- The nine flags (10_state.md R35). The other bits of FLAGS are no state (R36). -/
structure Flags where
  CF : Bool
  PF : Bool
  AF : Bool
  ZF : Bool
  SF : Bool
  TF : Bool
  IF : Bool
  DF : Bool
  OF : Bool
  deriving DecidableEq, Repr

/-- One access to the I/O space (20_memory.md R88): a call with its port and width, and the value
that the collaborator answered or that the core wrote. -/
inductive IoEvent where
  | readByte (port : Word) (value : Byte)
  | readWord (port : Word) (value : Word)
  | writeByte (port : Word) (value : Byte)
  | writeWord (port : Word) (value : Word)
  deriving DecidableEq, Repr

/-- Memory: the listed bytes, addresses strictly rising, no entry equal to what an unlisted address
reads as (`Memory.wf`). -/
abbrev Memory := List Host.Cell

/-- What an address without an entry reads as: DESIGN CHOICE (log 4), the spec gives memory no
contents at reset (70_reset_and_hazards.md R555). -/
def unlistedByte : Byte := 0#8

/-- The addresses of a memory rise strictly from `lo` on, stay below 2^20 (20_memory.md R80), and no
entry holds the unlisted byte. -/
def Memory.wfFrom (lo : Nat) : Memory → Bool
  | [] => true
  | (a, b) :: m => decide (lo ≤ a) && decide (a < 2 ^ 20) && b != unlistedByte && Memory.wfFrom (a + 1) m

/-- The canonical form of memory. -/
def Memory.wf (m : Memory) : Bool := m.wfFrom 0

/-- The bus unit's schedule: how many bytes it appends at each coming fill point (20_memory.md R100). The
numbers in `planned` come first; after them each is a free value, the `drawn`-th (log 6). -/
structure Schedule where
  planned : List Nat
  drawn   : Nat
  deriving DecidableEq, Repr

/-- Why the machine stops with a fault: there is no reason, "There is no fault outcome for guest code"
(30_encoding.md R165, 60_exceptions.md R527). -/
inductive Fault where
  deriving DecidableEq, Repr

/-- Why a form has no meaning (30_encoding.md R165, 46_undocumented.md R450). -/
inductive Refusal where
  /-- An instruction without a meaning in this model, by its mnemonic; raised in exec's arms only. Safe. -/
  | notModelled (mnemonic : String)
  /-- A group sub-encoding that no source gives a meaning: 8F /1-7, C6 and C7 /1-7, D0-D3 /6, FE /2-7,
  FF /7 (R450). Raised by the meanings of those rows. Safe. -/
  | undefinedGroupForm
  /-- 8C or 8E with a segment field of 4 to 7 (R450). Raised by the meanings of those two rows. Safe. -/
  | undefinedSegmentRegister
  /-- LEA, LES, LDS, CALL Mp or JMP Mp with a register operand, mod = 11 (R450). Safe. -/
  | registerWhereMemoryRequired
  /-- A REP prefix before MUL, IMUL, DIV or IDIV (43_string.md R348). Safe. -/
  | repeatedMultiplyDivide
  /-- MUL, IMUL or AAD under `P_CPU_VARIANT = compat` (41_arithmetic.md R275). Safe. -/
  | compatVariantMultiply
  /-- F6 /1 or F7 /1 under `P_UNDOC_OPCODES = noop` (46_undocumented.md R440, R450). Safe. -/
  | undocumentedTest
  /-- The bytes at the code address do not decode: raised by `step`, but no six bytes are like that. Safe. -/
  | undecodable
  deriving DecidableEq, Repr

/-- The machine's state. Each field's comment gives its rule. -/
structure State where
  /-- General registers (10_state.md R30). -/
  regs        : Regs
  /-- Segment registers (R33). -/
  segs        : Segs
  /-- Instruction pointer (R34). -/
  ip          : Word
  /-- The nine flags (R35). -/
  flags       : Flags
  /-- Prefetch queue, the next byte first (R39). -/
  queue       : List Byte
  /-- Segment override of the instruction being decoded (R41). -/
  ovr         : Option SReg
  /-- Repeat kind of the instruction being decoded (R41). -/
  rep         : Option RepKind
  /-- LOCK before the instruction being decoded (R41). -/
  lock        : Bool
  /-- Offset of the instruction's first byte (R41). -/
  startIp     : Word
  /-- Offset of its opcode byte (R41). -/
  opIp        : Word
  /-- The last step ended in PREFIX-ACCUMULATION (30_encoding.md R150): the run of prefix bytes is endless
  and goes on in the next step (70_reset_and_hazards.md R563; log 10). -/
  prefixing   : Bool
  /-- REP iteration state: `some x` is `repeating = true` with the string opcode `x` (R42). -/
  repeating   : Option StrInsn
  /-- Trap latch (R43). -/
  trapPending : Bool
  /-- NMI latch (R44). -/
  nmiPending  : Bool
  /-- NMI enable, an input the core never writes (R44). -/
  nmiEnable   : Bool
  /-- Suppression flag (R46). -/
  noint       : Bool
  /-- Halt state (R47). -/
  halted      : Bool
  /-- Memory (20_memory.md R80). -/
  mem         : Memory
  /-- The controller's pending unmasked vectors, the one `ctrl_query` reports first (60_exceptions.md
  R523; log 9). -/
  ctrl        : List Byte
  /-- The vectors of `ctrl_ack`, newest first (R523; log 9). -/
  acked       : List Byte
  /-- The I/O accesses, newest first (20_memory.md R88; log 8). -/
  ioLog       : List IoEvent
  /-- The parameters (00_scope.md R11; log 3). -/
  cfg         : Config
  /-- The model's counter of free values taken (R15; log 7). -/
  draws       : Nat
  /-- How many bytes the bus unit appends to the queue at each coming fill point (20_memory.md R100;
  log 6). -/
  fills       : Schedule
  deriving DecidableEq, Repr

/-- What executing an instruction ends in. -/
abbrev Result := Host.Outcome State Fault Refusal

/-- The state after power-on reset (10_state.md R51, 70_reset_and_hazards.md R550, R556). The general
registers (log 1), `nmiEnable` (log 2), `startIp` and `opIp` (log 12) and the model's own fields (log 6,
log 7, log 8, log 9, log 10) hold values of this model's choice. -/
def State.reset : State where
  regs        := ⟨0#16, 0#16, 0#16, 0#16, 0#16, 0#16, 0#16, 0#16⟩
  segs        := { es := 0#16, cs := 0xFFFF#16, ss := 0#16, ds := 0#16 }
  ip          := 0#16
  flags       := ⟨false, false, false, false, false, false, false, false, false⟩
  queue       := []
  ovr         := none
  rep         := none
  lock        := false
  startIp     := 0#16
  opIp        := 0#16
  prefixing   := false
  repeating   := none
  trapPending := false
  nmiPending  := false
  nmiEnable   := true
  noint       := false
  halted      := false
  mem         := []
  ctrl        := []
  acked       := []
  ioLog       := []
  cfg         := Config.standard
  draws       := 0
  fills       := { planned := [], drawn := 0 }

end Sys2Proof.Machine
end

