-- ==== Sys2Proof/Machine/Flags.lean ====
section
/-! DEFINITION. The flags register's image (10_state.md R35, R36) and the Flag/ALU Engine: every result
and flag computation of 41_arithmetic.md and 42_logic.md, and the conditions of 44_control.md R384. Pure
functions over bit vectors of 8 or 16 bits; a drawn flag (00_scope.md R15) is an argument. -/

namespace Sys2Proof.Machine

open Sys2Proof

/-! ## The image (R36) -/

/-- A flag at its bit of the image. -/
def flagBit (b : Bool) (k : Nat) : Word := (BitVec.ofBool b).setWidth 16 <<< k

/-- The 16-bit image of the flags (R36): bits 1 and 12 to 15 read 1, bits 3 and 5 read 0. -/
def Flags.image (f : Flags) : Word :=
  0xF002#16 ||| flagBit f.OF 11 ||| flagBit f.DF 10 ||| flagBit f.IF 9 ||| flagBit f.TF 8 |||
    flagBit f.SF 7 ||| flagBit f.ZF 6 ||| flagBit f.AF 4 ||| flagBit f.PF 2 ||| flagBit f.CF 0

/-- A write of the image: each of the nine flags is set to its bit, the other bits are ignored (R36). -/
def Flags.ofImage (v : Word) : Flags where
  CF := v.getLsbD 0
  PF := v.getLsbD 2
  AF := v.getLsbD 4
  ZF := v.getLsbD 6
  SF := v.getLsbD 7
  TF := v.getLsbD 8
  IF := v.getLsbD 9
  DF := v.getLsbD 10
  OF := v.getLsbD 11

/-- A write of the low byte of the image (SAHF, 40_data_transfer.md R223). -/
def Flags.setLowByte (f : Flags) (v : Byte) : Flags :=
  { f with
    SF := v.getLsbD 7
    ZF := v.getLsbD 6
    AF := v.getLsbD 4
    PF := v.getLsbD 2
    CF := v.getLsbD 0 }

/-- TF and IF are cleared, for every vector (60_exceptions.md R512). -/
def Flags.enter (f : Flags) : Flags := { f with TF := false, IF := false }

/-! ## Zero, sign and parity (R250) -/

/-- An even number of 1 bits in a byte. -/
def evenParity (b : Byte) : Bool :=
  !(b.getLsbD 0 ^^ b.getLsbD 1 ^^ b.getLsbD 2 ^^ b.getLsbD 3 ^^ b.getLsbD 4 ^^ b.getLsbD 5 ^^
    b.getLsbD 6 ^^ b.getLsbD 7)

/-- `ZSP_N(r)` (R250): parity is that of the low byte. -/
def Flags.zsp {n : Nat} (r : BitVec n) (f : Flags) : Flags :=
  { f with ZF := r == 0#n, SF := r.msb, PF := evenParity (r.setWidth 8) }

/-! ## Addition and subtraction (R251, R252) -/

/-- The result of `AddFlags_N(a, b, c)` (R251): the exact sum cut to N bits. -/
def addResult {n : Nat} (a b : BitVec n) (c : Bool) : BitVec n :=
  BitVec.ofNat n (a.toNat + b.toNat + c.toNat)

/-- The flags of `AddFlags_N(a, b, c)` (R251). -/
def addFlags {n : Nat} (a b : BitVec n) (c : Bool) (f : Flags) : Flags :=
  let r := addResult a b c
  Flags.zsp r
    { f with
      CF := decide (2 ^ n ≤ a.toNat + b.toNat + c.toNat)
      AF := (a ^^^ b ^^^ r).getLsbD 4
      OF := ((a ^^^ r) &&& (b ^^^ r)).msb }

/-- The result of `SubFlags_N(a, b, c)` (R252): the exact difference cut to N bits. -/
def subResult {n : Nat} (a b : BitVec n) (c : Bool) : BitVec n :=
  BitVec.ofInt n ((a.toNat : Int) - (b.toNat : Int) - (c.toNat : Int))

/-- The flags of `SubFlags_N(a, b, c)` (R252). -/
def subFlags {n : Nat} (a b : BitVec n) (c : Bool) (f : Flags) : Flags :=
  let r := subResult a b c
  Flags.zsp r
    { f with
      CF := decide (((a.toNat : Int) - (b.toNat : Int) - (c.toNat : Int)) < 0)
      AF := (a ^^^ b ^^^ r).getLsbD 4
      OF := ((a ^^^ b) &&& (a ^^^ r)).msb }

/-- The carry-in quirk's case (R253): the addend or subtrahend is all ones and CF is 1. -/
def quirkCase {n : Nat} (b : BitVec n) (c : Bool) : Bool := b == BitVec.allOnes n && c

/-- The flags of INC (R257): those of adding 1, with CF kept. -/
def incFlags {n : Nat} (a : BitVec n) (f : Flags) : Flags :=
  { addFlags a 1#n false f with CF := f.CF }

/-- The flags of DEC (R263): those of subtracting 1, with CF kept. -/
def decFlags {n : Nat} (a : BitVec n) (f : Flags) : Flags :=
  { subFlags a 1#n false f with CF := f.CF }

/-! ## Logic (42_logic.md R300) -/

/-- `LogicFlags_N(r)` with the drawn AF. -/
def logicFlags {n : Nat} (r : BitVec n) (af : Bool) (f : Flags) : Flags :=
  Flags.zsp r { f with CF := false, OF := false, AF := af }

/-! ## The eight two-operand operations (R254) -/

/-- The operations, in the order of `ooo`. -/
inductive AluOp where
  | add | or | adc | sbb | and | sub | xor | cmp
  deriving DecidableEq, Repr

/-- The result of an operation on `a` and `b` with the carry flag `c`. -/
def aluResult {n : Nat} (op : AluOp) (a b : BitVec n) (c : Bool) : BitVec n :=
  match op with
  | .add => addResult a b false
  | .or => a ||| b
  | .adc => addResult a b c
  | .sbb => subResult a b c
  | .and => a &&& b
  | .sub => subResult a b false
  | .xor => a ^^^ b
  | .cmp => subResult a b false

/-- AF after ADC or SBB: `af` in the quirk's case (R253), else the computed one. -/
def Flags.withQuirkAf {n : Nat} (b : BitVec n) (c af : Bool) (f : Flags) : Flags :=
  if quirkCase b c then { f with AF := af } else f

/-- The flags after an operation: `quirkAf` is AF in the quirk's case of ADC and SBB, `freeAf` the
drawn AF of AND, OR and XOR. -/
def aluFlags {n : Nat} (op : AluOp) (a b : BitVec n) (quirkAf freeAf : Bool) (f : Flags) : Flags :=
  match op with
  | .add => addFlags a b false f
  | .or => logicFlags (a ||| b) freeAf f
  | .adc => (addFlags a b f.CF f).withQuirkAf b f.CF quirkAf
  | .sbb => (subFlags a b f.CF f).withQuirkAf b f.CF quirkAf
  | .and => logicFlags (a &&& b) freeAf f
  | .sub => subFlags a b false f
  | .xor => logicFlags (a ^^^ b) freeAf f
  | .cmp => subFlags a b false f

/-! ## Decimal and ASCII adjustment (R258, R259, R265, R266) -/

/-- The condition of the first adjustment: the low digit exceeds 9 or AF is 1. -/
def digitAdjusts (al : Byte) (af : Bool) : Bool := decide (9 < al.toNat % 16) || af

/-- The condition of the second adjustment of DAA and DAS: AL exceeded 0x99 or CF was 1. -/
def tensAdjusts (al : Byte) (cf : Bool) : Bool := decide (0x99 < al.toNat) || cf

/-- AX after AAA (R258): 6 is added to AL alone. -/
def aaaResult (ax : Word) (af : Bool) : Word :=
  if digitAdjusts (loByte ax) af then mkWord (hiByte ax + 1#8) ((loByte ax + 6#8) &&& 0x0F#8)
  else mkWord (hiByte ax) (loByte ax &&& 0x0F#8)

/-- AX after AAS (R265). -/
def aasResult (ax : Word) (af : Bool) : Word :=
  if digitAdjusts (loByte ax) af then mkWord (hiByte ax - 1#8) ((loByte ax - 6#8) &&& 0x0F#8)
  else mkWord (hiByte ax) (loByte ax &&& 0x0F#8)

/-- The flags after AAA and AAS (R258, R265), the last four arguments being drawn. -/
def asciiFlags (al : Byte) (pf zf sf ofl : Bool) (f : Flags) : Flags :=
  { f with
    CF := digitAdjusts al f.AF
    AF := digitAdjusts al f.AF
    PF := pf
    ZF := zf
    SF := sf
    OF := ofl }

/-- AL after DAA (R259). -/
def daaResult (al : Byte) (af cf : Bool) : Byte :=
  al + (if digitAdjusts al af then 6#8 else 0#8) + (if tensAdjusts al cf then 0x60#8 else 0#8)

/-- The flags after DAA (R259) with the drawn OF. -/
def daaFlags (al : Byte) (ofl : Bool) (f : Flags) : Flags :=
  Flags.zsp (daaResult al f.AF f.CF)
    { f with CF := tensAdjusts al f.CF, AF := digitAdjusts al f.AF, OF := ofl }

/-- AL after DAS (R266). -/
def dasResult (al : Byte) (af cf : Bool) : Byte :=
  al - (if digitAdjusts al af then 6#8 else 0#8) - (if tensAdjusts al cf then 0x60#8 else 0#8)

/-- The flags after DAS (R266) with the drawn OF: without the second adjustment CF keeps what the first
gave it. -/
def dasFlags (al : Byte) (ofl : Bool) (f : Flags) : Flags :=
  Flags.zsp (dasResult al f.AF f.CF)
    { f with
      CF := if tensAdjusts al f.CF then true
            else digitAdjusts al f.AF && (f.CF || decide (al.toNat < 6))
      AF := digitAdjusts al f.AF
      OF := ofl }

/-! ## Multiplication and division (R267 to R272) -/

/-- The exact unsigned product in twice the width (R267). -/
def mulU {n : Nat} (a b : BitVec n) : BitVec (n + n) := BitVec.ofNat (n + n) (a.toNat * b.toNat)

/-- The exact signed product in twice the width (R268). -/
def mulS {n : Nat} (a b : BitVec n) : BitVec (n + n) := BitVec.ofInt (n + n) (a.toInt * b.toInt)

/-- The upper half of a double-width value. -/
def upperHalf {n : Nat} (p : BitVec (n + n)) : BitVec n := p.extractLsb' n n

/-- The lower half of a double-width value. -/
def lowerHalf {n : Nat} (p : BitVec (n + n)) : BitVec n := p.setWidth n

/-- The carry of MUL (R267): the upper half is not zero. -/
def mulUCarry {n : Nat} (p : BitVec (n + n)) : Bool := upperHalf p != 0#n

/-- The carry of IMUL (R268): the product is not its sign-extended lower half. -/
def mulSCarry {n : Nat} (p : BitVec (n + n)) : Bool := p != (lowerHalf p).signExtend (n + n)

/-- The flags after MUL and IMUL: CF and OF are the carry, the last four arguments are drawn. -/
def mulFlags (c pf af zf sf : Bool) (f : Flags) : Flags :=
  { f with CF := c, OF := c, PF := pf, AF := af, ZF := zf, SF := sf }

/-- DIV (R270): quotient and remainder of the dividend `hi ++ lo`; none is the divide error. -/
def divU {n : Nat} (hi lo d : BitVec n) : Option (BitVec n × BitVec n) :=
  if d = 0#n ∨ d.toNat ≤ hi.toNat then none
  else
    let v := (hi ++ lo).toNat
    some (BitVec.ofNat n (v / d.toNat), BitVec.ofNat n (v % d.toNat))

/-- IDIV (R271): truncated towards zero; none is the divide error, which the most negative quotient
raises too. -/
def divS {n : Nat} (hi lo b : BitVec n) : Option (BitVec n × BitVec n) :=
  if b = 0#n then none
  else
    let a := (hi ++ lo).toInt
    let q := a.tdiv b.toInt
    if q > (2 : Int) ^ (n - 1) - 1 ∨ q < -((2 : Int) ^ (n - 1) - 1) then none
    else some (BitVec.ofInt n q, BitVec.ofInt n (a - q * b.toInt))

/-- AL after AAD (R269), of which AH is then 0. -/
def aadResult (ah al ib : Byte) : Byte := BitVec.ofNat 8 (al.toNat + ah.toNat * ib.toNat)

/-- The flags after AAM and AAD (R269, R272): those of the new AL, the last three arguments drawn. -/
def aamFlags (al : Byte) (cf af ofl : Bool) (f : Flags) : Flags :=
  Flags.zsp al { f with CF := cf, AF := af, OF := ofl }

/-! ## Shifts and rotates (R306 to R313) -/

/-- The operations, in the order of the reg field. -/
inductive ShiftOp where
  | rol | ror | rcl | rcr | shl | shr | sar
  deriving DecidableEq, Repr

/-- A bit at the lowest place. -/
def lowBit (n : Nat) (b : Bool) : BitVec n := (BitVec.ofBool b).setWidth n

/-- A bit at the highest place. -/
def highBit (n : Nat) (b : Bool) : BitVec n := lowBit n b <<< (n - 1)

/-- One step: the operand and CF (R307 to R313). -/
def shiftStep {n : Nat} (op : ShiftOp) (p : BitVec n × Bool) : BitVec n × Bool :=
  let x := p.1
  match op with
  | .rol => ((x <<< 1) ||| lowBit n x.msb, x.msb)
  | .ror => ((x >>> 1) ||| highBit n (x.getLsbD 0), x.getLsbD 0)
  | .rcl => ((x <<< 1) ||| lowBit n p.2, x.msb)
  | .rcr => ((x >>> 1) ||| highBit n p.2, x.getLsbD 0)
  | .shl => (x <<< 1, x.msb)
  | .shr => (x >>> 1, x.getLsbD 0)
  | .sar => ((x >>> 1) ||| highBit n x.msb, x.getLsbD 0)

/-- `count` steps (R306). -/
def shiftSteps {n : Nat} (op : ShiftOp) : Nat → BitVec n × Bool → BitVec n × Bool
  | 0, p => p
  | k + 1, p => shiftSteps op k (shiftStep op p)

/-- OF after one step from `orig` to `x` and `cf` (R307 to R313). -/
def shiftOneOf {n : Nat} (op : ShiftOp) (orig x : BitVec n) (cf : Bool) : Bool :=
  match op with
  | .rol => x.msb ^^ cf
  | .ror => x.msb ^^ x.getLsbD (n - 2)
  | .rcl => x.msb ^^ cf
  | .rcr => x.msb ^^ x.getLsbD (n - 2)
  | .shl => x.msb ^^ cf
  | .shr => orig.msb
  | .sar => false

/-- SHL, SHR and SAR write the result flags; the rotates do not (R306). -/
def ShiftOp.isShift : ShiftOp → Bool
  | .rol => false
  | .ror => false
  | .rcl => false
  | .rcr => false
  | .shl => true
  | .shr => true
  | .sar => true

/-- The flags after a shift or rotate by `count ≠ 0` from `orig` to `p` (R306): `freeOf` is the drawn
OF of a count other than 1, `freeAf` the drawn AF of a shift. -/
def shiftFlags {n : Nat} (op : ShiftOp) (count : Nat) (orig : BitVec n) (p : BitVec n × Bool)
    (freeOf freeAf : Bool) (f : Flags) : Flags :=
  let f1 := { f with CF := p.2, OF := if count = 1 then shiftOneOf op orig p.1 p.2 else freeOf }
  if op.isShift then Flags.zsp p.1 { f1 with AF := freeAf } else f1

/-! ## Conditions (44_control.md R384) -/

/-- The conditions, in the order of `cccc`. -/
inductive Cond where
  | o | no | b | nb | e | ne | be | a | s | ns | p | np | l | ge | le | g
  deriving DecidableEq, Repr

/-- The condition of a 4-bit code. -/
def Cond.ofCode (c : BitVec 4) : Cond :=
  match c.toNat with
  | 0 => .o | 1 => .no | 2 => .b | 3 => .nb | 4 => .e | 5 => .ne | 6 => .be | 7 => .a
  | 8 => .s | 9 => .ns | 10 => .p | 11 => .np | 12 => .l | 13 => .ge | 14 => .le | _ => .g

/-- The condition table of R384. -/
def Cond.holds (f : Flags) : Cond → Bool
  | .o => f.OF
  | .no => !f.OF
  | .b => f.CF
  | .nb => !f.CF
  | .e => f.ZF
  | .ne => !f.ZF
  | .be => f.CF || f.ZF
  | .a => !f.CF && !f.ZF
  | .s => f.SF
  | .ns => !f.SF
  | .p => f.PF
  | .np => !f.PF
  | .l => f.SF != f.OF
  | .ge => f.SF == f.OF
  | .le => f.ZF || f.SF != f.OF
  | .g => !f.ZF && f.SF == f.OF

end Sys2Proof.Machine
end

