-- ==== Sys2Proof/Machine/Ops.lean ====
section
/-! DEFINITION. The named operations over registers, memory, the prefetch queue and the stack; the
vectored transfer, which is how this machine takes an exception (60_exceptions.md R512), the return from
it (44_control.md R408), INTERRUPT-CHECK (R508), and the start and end of an instruction (30_encoding.md
R152, R157). -/

namespace Sys2Proof.Machine

open Sys2Proof

/-! ## General and segment registers (10_state.md R30 to R33) -/

/-- `x[i]` (R30). -/
def Regs.get (r : Regs) : Reg → Word
  | .ax => r.ax | .cx => r.cx | .dx => r.dx | .bx => r.bx
  | .sp => r.sp | .bp => r.bp | .si => r.si | .di => r.di

/-- `x[i] <- v` (R30). -/
def Regs.set (r : Regs) (i : Reg) (v : Word) : Regs :=
  match i with
  | .ax => { r with ax := v }
  | .cx => { r with cx := v }
  | .dx => { r with dx := v }
  | .bx => { r with bx := v }
  | .sp => { r with sp := v }
  | .bp => { r with bp := v }
  | .si => { r with si := v }
  | .di => { r with di := v }

/-- `r8[i]` (R31): a half of AX, CX, DX or BX. -/
def Regs.get8 (r : Regs) : Reg8 → Byte
  | .al => loByte r.ax | .cl => loByte r.cx | .dl => loByte r.dx | .bl => loByte r.bx
  | .ah => hiByte r.ax | .ch => hiByte r.cx | .dh => hiByte r.dx | .bh => hiByte r.bx

/-- `r8[i] <- v` (R32): the other half of the word is kept. -/
def Regs.set8 (r : Regs) (i : Reg8) (v : Byte) : Regs :=
  match i with
  | .al => { r with ax := mkWord (hiByte r.ax) v }
  | .cl => { r with cx := mkWord (hiByte r.cx) v }
  | .dl => { r with dx := mkWord (hiByte r.dx) v }
  | .bl => { r with bx := mkWord (hiByte r.bx) v }
  | .ah => { r with ax := mkWord v (loByte r.ax) }
  | .ch => { r with cx := mkWord v (loByte r.cx) }
  | .dh => { r with dx := mkWord v (loByte r.dx) }
  | .bh => { r with bx := mkWord v (loByte r.bx) }

/-- `seg[s]` (R33). -/
def Segs.get (g : Segs) : SReg → Word
  | .es => g.es | .cs => g.cs | .ss => g.ss | .ds => g.ds

/-- `seg[s] <- v` (R33). -/
def Segs.set (g : Segs) (i : SReg) (v : Word) : Segs :=
  match i with
  | .es => { g with es := v }
  | .cs => { g with cs := v }
  | .ss => { g with ss := v }
  | .ds => { g with ds := v }

/-- The number of bytes at the next fill point: the next planned one, else a free value (20_memory.md R100;
log 6). -/
def Schedule.head (f : Schedule) : Nat :=
  match f.planned with
  | [] => Config.freeFill f.drawn
  | n :: _ => n

/-- The schedule after its next fill point. -/
def Schedule.tail (f : Schedule) : Schedule :=
  match f.planned with
  | [] => { f with drawn := f.drawn + 1 }
  | _ :: ns => { f with planned := ns }

namespace State

/-- Write a word register. -/
def setReg (s : State) (i : Reg) (v : Word) : State := { s with regs := s.regs.set i v }

/-- Write a byte register. -/
def setReg8 (s : State) (i : Reg8) (v : Byte) : State := { s with regs := s.regs.set8 i v }

/-- Write a segment register; nothing else happens here (the flush of a CS load is the instruction's). -/
def setSeg (s : State) (i : SReg) (v : Word) : State := { s with segs := s.segs.set i v }

/-- Write the flags. -/
def setFlags (s : State) (f : Flags) : State := { s with flags := f }

/-- The `k`-th free bit from the present one on (00_scope.md R15; log 7). -/
def freeBit (s : State) (k : Nat) : Bool := Config.freeBit (s.draws + k)

/-- `k` free values are taken. -/
def advance (s : State) (k : Nat) : State := { s with draws := s.draws + k }

end State

/-! ## Memory (20_memory.md R80 to R87) -/

/-- The byte that memory holds at an address. -/
def Memory.read : Memory → Nat → Byte
  | [], _ => unlistedByte
  | (a, b) :: m, x => if x = a then b else Memory.read m x

/-- A memory without an entry at an address. -/
def Memory.erase (m : Memory) (x : Nat) : Memory := m.filter fun c => c.1 != x

/-- An entry put before the first one of a higher address. -/
def Memory.insert : Memory → Nat → Byte → Memory
  | [], x, v => [(x, v)]
  | c :: m, x, v => if x < c.1 then (x, v) :: c :: m else c :: Memory.insert m x v

/-- Store a byte, keeping the canonical form: the unlisted byte's value removes the entry. -/
def Memory.write (m : Memory) (x : Nat) (v : Byte) : Memory :=
  if v = unlistedByte then m.erase x else (m.erase x).insert x v

/-- `phys(s, o)` (R81): the segment value shifted left by 4 plus the offset, in 20 bits. -/
def phys (sg off : Word) : PhysAddr := (sg.setWidth 20 <<< 4) + off.setWidth 20

/-- Whether the memory collaborator has no mapping at an address (60_exceptions.md R526). -/
def isUnmapped (cfg : Config) (a : Nat) : Bool :=
  cfg.unmapped.any fun r => decide (r.base ≤ a) && decide (a < r.base + r.len)

/-- `P_QUEUE_CAP` (00_scope.md R11). -/
def queueCap (cfg : Config) : Nat :=
  match cfg.busWidth with
  | .bus8 => 4
  | .bus16 => 6

namespace State

/-- `PhysRead(pa)` (R84): the open-bus value where nothing is mapped (R526). -/
def physRead (s : State) (pa : PhysAddr) : Byte :=
  if isUnmapped s.cfg pa.toNat then s.cfg.openBus else s.mem.read pa.toNat

/-- `PhysWrite(pa, b)` (R84): lost where nothing is mapped (R526). -/
def physWrite (s : State) (pa : PhysAddr) (b : Byte) : State :=
  if isUnmapped s.cfg pa.toNat then s else { s with mem := s.mem.write pa.toNat b }

/-! ## The prefetch queue (R100 to R104) -/

/-- At most `n` bytes are appended, each read at the next prefetch address while the queue has room
(R100). -/
def fillBy : Nat → State → State
  | 0, s => s
  | n + 1, s =>
    if s.queue.length < queueCap s.cfg then
      fillBy n { s with queue :=
        s.queue ++ [s.physRead (phys s.segs.cs (s.ip + BitVec.ofNat 16 s.queue.length))] }
    else s

/-- A fill point (R100): the number of bytes is the schedule's next, a free one unless planned (log 6). -/
def fill (s : State) : State :=
  { s with queue := (fillBy s.fills.head s).queue, fills := s.fills.tail }

/-- `fetch8()` (R101). -/
def fetch8 (s : State) : Byte × State :=
  match s.queue with
  | b :: q => (b, { s with queue := q, ip := s.ip + 1#16 })
  | [] => (s.physRead (phys s.segs.cs s.ip), { s with ip := s.ip + 1#16 })

/-- `n` bytes taken one after the other by `fetch8()`. -/
def fetchBytes : Nat → State → List Byte × State
  | 0, s => ([], s)
  | n + 1, s =>
    let p := s.fetch8
    let q := fetchBytes n p.2
    (p.1 :: q.1, q.2)

/-- `clear()` (R102). -/
def flush (s : State) : State := { s with queue := [] }

/-- A write of `ip` other than by `fetch8()`, with its flush (R102). -/
def jump (s : State) (t : Word) : State := { s with ip := t, queue := [] }

/-- A write of `CS` and `ip`, with its flush (R102). -/
def farJump (s : State) (sg off : Word) : State := (s.setSeg .cs sg).jump off

/-! ## Logical accesses (R82, R84) -/

/-- `MemRead((s,o), 1)`. -/
def readByte (s : State) (sg off : Word) : Byte := s.physRead (phys sg off)

/-- `MemRead((s,o), 2)`: the second byte at offset o + 1 mod 2^16. -/
def readWord (s : State) (sg off : Word) : Word :=
  mkWord (s.physRead (phys sg (off + 1#16))) (s.physRead (phys sg off))

/-- `MemWrite((s,o), 1, v)`, followed by a fill point (R100). -/
def writeByte (s : State) (sg off : Word) (v : Byte) : State := (s.physWrite (phys sg off) v).fill

/-- `MemWrite((s,o), 2, v)`: the low byte, then the high byte at offset o + 1 mod 2^16. -/
def writeWord (s : State) (sg off : Word) (v : Word) : State :=
  (s.writeByte sg off (loByte v)).writeByte sg (off + 1#16) (hiByte v)

/-! ## The stack (R89, R90) -/

/-- `Push16(v)`. -/
def push16 (s : State) (v : Word) : State :=
  let sp := s.regs.sp - 2#16
  (s.setReg .sp sp).writeWord s.segs.ss sp v

/-- The word that `Pop16()` returns. -/
def top16 (s : State) : Word := s.readWord s.segs.ss s.regs.sp

/-- `SP <- SP + n`: `Pop16()`'s step with n = 2, and the release of RET and RETF. -/
def release (s : State) (n : Word) : State := s.setReg .sp (s.regs.sp + n)

/-- `Pop16()`. -/
def pop16 (s : State) : Word × State := (s.top16, s.release 2#16)

/-! ## The I/O space (R88) -/

/-- `IORead(p, 1)`: the answer is a free byte, the access is recorded (log 8). -/
def ioReadByte (s : State) (p : Word) : Byte × State :=
  let v := Config.freeByte s.draws
  (v, { s.advance 1 with ioLog := .readByte p v :: s.ioLog })

/-- `IORead(p, 2)`: one word call. -/
def ioReadWord (s : State) (p : Word) : Word × State :=
  let v := Config.freeWord s.draws
  (v, { s.advance 1 with ioLog := .readWord p v :: s.ioLog })

/-- `IOWrite(p, 1, v)`. -/
def ioWriteByte (s : State) (p : Word) (v : Byte) : State := { s with ioLog := .writeByte p v :: s.ioLog }

/-- `IOWrite(p, 2, v)`: one word call. -/
def ioWriteWord (s : State) (p : Word) (v : Word) : State := { s with ioLog := .writeWord p v :: s.ioLog }

/-! ## Taking an exception and returning from it (60_exceptions.md R511 to R516) -/

/-- The word at a physical address, the low byte at the lower address: a vector-table word (R511). -/
def physWord (s : State) (pa : PhysAddr) : Word := mkWord (s.physRead (pa + 1#20)) (s.physRead pa)

/-- The physical address of a vector's entry, `4v` (R511). -/
def vectorAddr (v : Byte) : PhysAddr := v.setWidth 20 <<< 2

/-- `service(v, ret)`, the vectored transfer (R512): the flags image, CS and the return offset are
pushed, TF and IF cleared after the first push, `ip` and `CS` loaded from the vector table after the
pushes, the queue flushed and the halt ended. -/
def service (s : State) (v : Byte) (ret : Word) : State :=
  let s1 := s.push16 s.flags.image
  let s2 := s1.setFlags (Flags.enter s1.flags)
  let s3 := s2.push16 s2.segs.cs
  let s4 := s3.push16 ret
  { s4.farJump (s4.physWord (vectorAddr v + 2#20)) (s4.physWord (vectorAddr v)) with halted := false }

/-- The return from a handler (44_control.md R408): ip, CS and FLAGS are popped in that order, and the
queue is flushed. -/
def returnFromInterrupt (s : State) : State :=
  let p1 := s.pop16
  let p2 := p1.2.pop16
  let p3 := p2.2.pop16
  (p3.2.setFlags (Flags.ofImage p3.1)).farJump p2.1 p1.1

/-! ## INTERRUPT-CHECK (R508) -/

/-- `ctrl_query()` (R523): pure. -/
def ctrlQuery (s : State) : Option Byte := s.ctrl.head?

/-- `ctrl_ack(v)` (R523): the acceptance is recorded; the accepted request, the head of `ctrl`, is
dropped (log 9). -/
def ctrlAck (s : State) (v : Byte) : State := { s with ctrl := s.ctrl.tail, acked := v :: s.acked }

/-- INTERRUPT-CHECK (R508): suppression, then the trap, then the NMI, then the maskable interrupt. -/
def interruptCheck (s : State) : State :=
  if s.noint then { s with noint := false }
  else if s.trapPending then s.service 1#8 s.ip
  else if s.nmiPending && s.nmiEnable then
    { s with nmiPending := false }.service 2#8 s.ip
  else if s.flags.IF then
    match s.ctrlQuery with
    | some v => (s.ctrlAck v).service v s.ip
    | none => s
  else s

/-- `interrupt_pending()` of the REP iteration (43_string.md R341). -/
def interruptPending (s : State) : Bool :=
  s.trapPending || (s.nmiPending && s.nmiEnable) || (s.flags.IF && s.ctrlQuery.isSome)

/-! ## The start and the end of an instruction (30_encoding.md R152 to R157) -/

/-- Instruction start (R152): a fill point, the trap latch sampled from TF, no prefix state. R100 does not
say on which side of a host memory change this fill point lies: it lies after the change here, and
`hostWrite` has one before it; the places are the model's choice (log 6). -/
def beginInstr (s : State) : State :=
  { s.fill with
    trapPending := s.flags.TF
    startIp := s.ip
    ovr := none
    rep := none
    lock := false }

/-- Where a step that is neither HALTED nor a REP iteration starts: at the start of an instruction, or
in a run of prefix bytes that goes on (log 10). -/
def stepStart (s : State) : State := if s.prefixing then s else s.beginInstr

/-- The next instruction or prefix byte (R153 to R155): its bytes are taken by `fetch8()`, `opIp` is the
offset of its opcode byte. The bytes are looked at before as many are taken as it has (log 18). A run of
prefix bytes that went on from the step before is left (log 10). -/
def fetchInstr (s : State) : Except Reject (Instr × State) :=
  match decode s.cfg (s.fetchBytes maxInstrBytes).1 with
  | .ok (i, rest) => .ok (i, { (s.fetchBytes (maxInstrBytes - rest.length)).2 with opIp := s.ip, prefixing := false })
  | .error r => .error r

/-- End of instruction (R157): the prefix and REP state is cleared, then INTERRUPT-CHECK. -/
def endInstr (s : State) : State :=
  { s with ovr := none, rep := none, lock := false, repeating := none }.interruptCheck

/-- After EXECUTE: a REP string instruction that is not finished ends the step in REPEAT-ITERATION,
which is no instruction boundary (R151, R157). -/
def finish (s : State) : State :=
  match s.repeating with
  | some _ => s
  | none => s.endInstr

/-- A HALTED step (45_processor_control.md R417): a fill point and INTERRUPT-CHECK, with the trap latch
false. -/
def haltedStep (s : State) : State := { s.fill with trapPending := false }.interruptCheck

end State

end Sys2Proof.Machine
end

