-- ==== Sys2Proof/Machine/Operands.lean ====
section
/-! DEFINITION. Operand forms: the Effective-Address Unit (30_encoding.md R123 to R130) and reads and
writes of the E operand (40_data_transfer.md R200). -/

namespace Sys2Proof.Machine

open Sys2Proof

/-- The sum of base and index (R124). -/
def BaseIndex.sum (r : Regs) : BaseIndex → Word
  | .bxSi => r.bx + r.si
  | .bxDi => r.bx + r.di
  | .bpSi => r.bp + r.si
  | .bpDi => r.bp + r.di
  | .si => r.si
  | .di => r.di
  | .bp => r.bp
  | .bx => r.bx

/-- The default segment of a base and index (R124). -/
def BaseIndex.segment : BaseIndex → SReg
  | .bxSi => .ds
  | .bxDi => .ds
  | .bpSi => .ss
  | .bpDi => .ss
  | .si => .ds
  | .di => .ds
  | .bp => .ss
  | .bx => .ds

/-- The offset of a memory operand (R129), wrapped to 16 bits. -/
def effOffset (r : Regs) : MemRef → Word
  | .direct off => off
  | .base b => BaseIndex.sum r b
  | .baseD8 b d => BaseIndex.sum r b + sext16 d
  | .baseD16 b d => BaseIndex.sum r b + d

/-- The default segment of a memory operand (R124, R127). -/
def defaultSeg : MemRef → SReg
  | .direct _ => .ds
  | .base b => BaseIndex.segment b
  | .baseD8 b _ => BaseIndex.segment b
  | .baseD16 b _ => BaseIndex.segment b

/-- Where an E operand is: a register, or a segment value and an offset. -/
inductive Loc (ρ : Type) where
  | reg (r : ρ)
  | mem (sg off : Word)
  deriving DecidableEq, Repr

namespace State

/-- The value of the segment that a reference with a default segment uses: the override's if there is
one (R128). -/
def segValue (s : State) (dflt : SReg) : Word := s.segs.get (s.ovr.getD dflt)

/-- The place of an E operand (R129), fixed before the instruction changes anything. -/
def locate {ρ : Type} (s : State) : RM ρ → Loc ρ
  | .reg r => .reg r
  | .mem m => .mem (s.segValue (defaultSeg m)) (effOffset s.regs m)

/-- `Rd(E)`, byte. -/
def rd8 (s : State) : Loc Reg8 → Byte
  | .reg r => s.regs.get8 r
  | .mem sg off => s.readByte sg off

/-- `Wr(E, v)`, byte. -/
def wr8 (s : State) (l : Loc Reg8) (v : Byte) : State :=
  match l with
  | .reg r => s.setReg8 r v
  | .mem sg off => s.writeByte sg off v

/-- `Rd(E)`, word. -/
def rd16 (s : State) : Loc Reg → Word
  | .reg r => s.regs.get r
  | .mem sg off => s.readWord sg off

/-- `Wr(E, v)`, word. -/
def wr16 (s : State) (l : Loc Reg) (v : Word) : State :=
  match l with
  | .reg r => s.setReg r v
  | .mem sg off => s.writeWord sg off v

/-- The byte value of an E operand. -/
def rdE8 (s : State) (e : RM Reg8) : Byte := s.rd8 (s.locate e)

/-- The word value of an E operand. -/
def rdE16 (s : State) (e : RM Reg) : Word := s.rd16 (s.locate e)

/-- The far pointer `Mp` (R131): offset word at the operand, segment word 2 bytes on in the same segment;
none for a register operand. -/
def farPointer (s : State) (e : RM Reg) : Option (Word × Word) :=
  match s.locate e with
  | .mem sg off => some (s.readWord sg off, s.readWord sg (off + 2#16))
  | .reg _ => none

/-! ## The two-operand ALU forms (41_arithmetic.md R254) -/

/-- AF of ADC and SBB in the quirk's case (R253): `P_ADC_QUIRK_AF`, drawn by default. -/
def quirkAf (s : State) : Bool := s.cfg.adcQuirkAf.getD (s.freeBit 0)

/-- How many free values an operation takes. -/
def aluDraws : AluOp → Nat
  | .add => 0
  | .or => 1
  | .adc => 1
  | .sbb => 1
  | .and => 1
  | .sub => 0
  | .xor => 1
  | .cmp => 0

/-- The flags of an operation on `a` and `b`. -/
def aluSet {n : Nat} (s : State) (op : AluOp) (a b : BitVec n) : State :=
  (s.setFlags (aluFlags op a b s.quirkAf (s.freeBit 0) s.flags)).advance (aluDraws op)

/-- An operation with a byte destination `e` and source value `b`: CMP writes nothing. -/
def alu8 (s : State) (op : AluOp) (e : RM Reg8) (b : Byte) : State :=
  let s1 := s.aluSet op (s.rdE8 e) b
  if op = .cmp then s1 else s1.wr8 (s.locate e) (aluResult op (s.rdE8 e) b s.flags.CF)

/-- An operation with a word destination `e` and source value `b`. -/
def alu16 (s : State) (op : AluOp) (e : RM Reg) (b : Word) : State :=
  let s1 := s.aluSet op (s.rdE16 e) b
  if op = .cmp then s1 else s1.wr16 (s.locate e) (aluResult op (s.rdE16 e) b s.flags.CF)

end State

end Sys2Proof.Machine
end

