-- ==== Sys2Proof/Machine/Arithmetic.lean ====
section
/-! DEFINITION. The arithmetic instructions (41_arithmetic.md). -/

namespace Sys2Proof.Machine

open Sys2Proof

namespace State

/-- INC of a byte operand (R257). -/
def inc8 (s : State) (e : RM Reg8) : State :=
  (s.setFlags (incFlags (s.rdE8 e) s.flags)).wr8 (s.locate e) (addResult (s.rdE8 e) 1#8 false)

/-- INC of a word operand (R257). -/
def inc16 (s : State) (e : RM Reg) : State :=
  (s.setFlags (incFlags (s.rdE16 e) s.flags)).wr16 (s.locate e) (addResult (s.rdE16 e) 1#16 false)

/-- DEC of a byte operand (R263). -/
def dec8 (s : State) (e : RM Reg8) : State :=
  (s.setFlags (decFlags (s.rdE8 e) s.flags)).wr8 (s.locate e) (subResult (s.rdE8 e) 1#8 false)

/-- DEC of a word operand (R263). -/
def dec16 (s : State) (e : RM Reg) : State :=
  (s.setFlags (decFlags (s.rdE16 e) s.flags)).wr16 (s.locate e) (subResult (s.rdE16 e) 1#16 false)

/-- `DX:AX <- p`. -/
def setPair (s : State) (p : BitVec (16 + 16)) : State :=
  (s.setReg .ax (lowerHalf p)).setReg .dx (upperHalf p)

/-- The flags of MUL and IMUL (R267, R268): four of them are drawn. -/
def mulEnd (s : State) (c : Bool) : State :=
  (s.setFlags
    (mulFlags c (s.freeBit 0) (s.freeBit 1) (s.freeBit 2) (s.freeBit 3) s.flags)).advance 4

/-- MUL and IMUL are refused with a REP prefix (43_string.md R348) and under `compat` (R275). -/
def mulGuard (s : State) (t : State) : Result :=
  if s.rep.isSome then .refused .repeatedMultiplyDivide
  else
    match s.cfg.cpuVariant with
    | .intel => .next t
    | .compat => .refused .compatVariantMultiply

/-- The six arithmetic flags are drawn (R270, R271). -/
def drawFlags (s : State) : State :=
  (s.setFlags
    { s.flags with
      CF := s.freeBit 0
      PF := s.freeBit 1
      AF := s.freeBit 2
      ZF := s.freeBit 3
      SF := s.freeBit 4
      OF := s.freeBit 5 }).advance 6

/-- The divide error (60_exceptions.md R502): vector 0 is serviced with the return address `ip_next`, so
that the flags as they were are pushed (95_test_vectors.md V41.33), and the arithmetic flags left in FLAGS
are drawn (log 11). -/
def divideError (s : State) : State := (s.service 0#8 s.ip).drawFlags

/-- The end of a byte division: quotient to AL, remainder to AH, or the divide error. -/
def divide8 (s : State) : Option (Byte × Byte) → State
  | some (q, r) => s.drawFlags.setReg .ax (mkWord r q)
  | none => s.divideError

/-- The end of a word division: quotient to AX, remainder to DX, or the divide error. -/
def divide16 (s : State) : Option (Word × Word) → State
  | some (q, r) => (s.drawFlags.setReg .ax q).setReg .dx r
  | none => s.divideError

end State

/-- ADD Eb,Gb (R255). -/
def execAddEbGb (e : RM Reg8) (g : Reg8) (s : State) : Result := .next (s.alu8 .add e (s.regs.get8 g))

/-- ADD Ev,Gv (R255). -/
def execAddEvGv (e : RM Reg) (g : Reg) (s : State) : Result := .next (s.alu16 .add e (s.regs.get g))

/-- ADD Gb,Eb (R255). -/
def execAddGbEb (g : Reg8) (e : RM Reg8) (s : State) : Result := .next (s.alu8 .add (.reg g) (s.rdE8 e))

/-- ADD Gv,Ev (R255). -/
def execAddGvEv (g : Reg) (e : RM Reg) (s : State) : Result := .next (s.alu16 .add (.reg g) (s.rdE16 e))

/-- ADD AL,Ib (R255). -/
def execAddAlIb (imm : Byte) (s : State) : Result := .next (s.alu8 .add (.reg .al) imm)

/-- ADD AX,Iv (R255). -/
def execAddAxIv (imm : Word) (s : State) : Result := .next (s.alu16 .add (.reg .ax) imm)

/-- ADD Eb,Ib (R255). -/
def execAddEbIb (e : RM Reg8) (imm : Byte) (s : State) : Result := .next (s.alu8 .add e imm)

/-- ADD Ev,Iv (R255). -/
def execAddEvIv (e : RM Reg) (imm : Word) (s : State) : Result := .next (s.alu16 .add e imm)

/-- ADD Eb,Ib by the byte 82, as 80 (46_undocumented.md R447). -/
def execAddEbIb82 (e : RM Reg8) (imm : Byte) (s : State) : Result := .next (s.alu8 .add e imm)

/-- ADD Ev,Ib (sign-extended) (R255). -/
def execAddEvIbSx (e : RM Reg) (imm : Byte) (s : State) : Result := .next (s.alu16 .add e (sext16 imm))

/-- ADC Eb,Gb (R256). -/
def execAdcEbGb (e : RM Reg8) (g : Reg8) (s : State) : Result := .next (s.alu8 .adc e (s.regs.get8 g))

/-- ADC Ev,Gv (R256). -/
def execAdcEvGv (e : RM Reg) (g : Reg) (s : State) : Result := .next (s.alu16 .adc e (s.regs.get g))

/-- ADC Gb,Eb (R256). -/
def execAdcGbEb (g : Reg8) (e : RM Reg8) (s : State) : Result := .next (s.alu8 .adc (.reg g) (s.rdE8 e))

/-- ADC Gv,Ev (R256). -/
def execAdcGvEv (g : Reg) (e : RM Reg) (s : State) : Result := .next (s.alu16 .adc (.reg g) (s.rdE16 e))

/-- ADC AL,Ib (R256). -/
def execAdcAlIb (imm : Byte) (s : State) : Result := .next (s.alu8 .adc (.reg .al) imm)

/-- ADC AX,Iv (R256). -/
def execAdcAxIv (imm : Word) (s : State) : Result := .next (s.alu16 .adc (.reg .ax) imm)

/-- ADC Eb,Ib (R256). -/
def execAdcEbIb (e : RM Reg8) (imm : Byte) (s : State) : Result := .next (s.alu8 .adc e imm)

/-- ADC Ev,Iv (R256). -/
def execAdcEvIv (e : RM Reg) (imm : Word) (s : State) : Result := .next (s.alu16 .adc e imm)

/-- ADC Eb,Ib by the byte 82, as 80 (46_undocumented.md R447). -/
def execAdcEbIb82 (e : RM Reg8) (imm : Byte) (s : State) : Result := .next (s.alu8 .adc e imm)

/-- ADC Ev,Ib (sign-extended) (R256). -/
def execAdcEvIbSx (e : RM Reg) (imm : Byte) (s : State) : Result := .next (s.alu16 .adc e (sext16 imm))

/-- INC r16 (R257). -/
def execIncR16 (r : Reg) (s : State) : Result := .next (s.inc16 (.reg r))

/-- INC Eb (R257). -/
def execIncEb (e : RM Reg8) (s : State) : Result := .next (s.inc8 e)

/-- INC Ev (R257). -/
def execIncEv (e : RM Reg) (s : State) : Result := .next (s.inc16 e)

/-- AAA (R258). -/
def execAaa (s : State) : Result :=
  .next (((s.setReg .ax (aaaResult s.regs.ax s.flags.AF)).setFlags
    (asciiFlags (loByte s.regs.ax) (s.freeBit 0) (s.freeBit 1) (s.freeBit 2) (s.freeBit 3) s.flags)).advance 4)

/-- DAA (R259). -/
def execDaa (s : State) : Result :=
  .next (((s.setReg8 .al (daaResult (loByte s.regs.ax) s.flags.AF s.flags.CF)).setFlags
    (daaFlags (loByte s.regs.ax) (s.freeBit 0) s.flags)).advance 1)

/-- SUB Eb,Gb (R260). -/
def execSubEbGb (e : RM Reg8) (g : Reg8) (s : State) : Result := .next (s.alu8 .sub e (s.regs.get8 g))

/-- SUB Ev,Gv (R260). -/
def execSubEvGv (e : RM Reg) (g : Reg) (s : State) : Result := .next (s.alu16 .sub e (s.regs.get g))

/-- SUB Gb,Eb (R260). -/
def execSubGbEb (g : Reg8) (e : RM Reg8) (s : State) : Result := .next (s.alu8 .sub (.reg g) (s.rdE8 e))

/-- SUB Gv,Ev (R260). -/
def execSubGvEv (g : Reg) (e : RM Reg) (s : State) : Result := .next (s.alu16 .sub (.reg g) (s.rdE16 e))

/-- SUB AL,Ib (R260). -/
def execSubAlIb (imm : Byte) (s : State) : Result := .next (s.alu8 .sub (.reg .al) imm)

/-- SUB AX,Iv (R260). -/
def execSubAxIv (imm : Word) (s : State) : Result := .next (s.alu16 .sub (.reg .ax) imm)

/-- SUB Eb,Ib (R260). -/
def execSubEbIb (e : RM Reg8) (imm : Byte) (s : State) : Result := .next (s.alu8 .sub e imm)

/-- SUB Ev,Iv (R260). -/
def execSubEvIv (e : RM Reg) (imm : Word) (s : State) : Result := .next (s.alu16 .sub e imm)

/-- SUB Eb,Ib by the byte 82, as 80 (46_undocumented.md R447). -/
def execSubEbIb82 (e : RM Reg8) (imm : Byte) (s : State) : Result := .next (s.alu8 .sub e imm)

/-- SUB Ev,Ib (sign-extended) (R260). -/
def execSubEvIbSx (e : RM Reg) (imm : Byte) (s : State) : Result := .next (s.alu16 .sub e (sext16 imm))

/-- SBB Eb,Gb (R261). -/
def execSbbEbGb (e : RM Reg8) (g : Reg8) (s : State) : Result := .next (s.alu8 .sbb e (s.regs.get8 g))

/-- SBB Ev,Gv (R261). -/
def execSbbEvGv (e : RM Reg) (g : Reg) (s : State) : Result := .next (s.alu16 .sbb e (s.regs.get g))

/-- SBB Gb,Eb (R261). -/
def execSbbGbEb (g : Reg8) (e : RM Reg8) (s : State) : Result := .next (s.alu8 .sbb (.reg g) (s.rdE8 e))

/-- SBB Gv,Ev (R261). -/
def execSbbGvEv (g : Reg) (e : RM Reg) (s : State) : Result := .next (s.alu16 .sbb (.reg g) (s.rdE16 e))

/-- SBB AL,Ib (R261). -/
def execSbbAlIb (imm : Byte) (s : State) : Result := .next (s.alu8 .sbb (.reg .al) imm)

/-- SBB AX,Iv (R261). -/
def execSbbAxIv (imm : Word) (s : State) : Result := .next (s.alu16 .sbb (.reg .ax) imm)

/-- SBB Eb,Ib (R261). -/
def execSbbEbIb (e : RM Reg8) (imm : Byte) (s : State) : Result := .next (s.alu8 .sbb e imm)

/-- SBB Ev,Iv (R261). -/
def execSbbEvIv (e : RM Reg) (imm : Word) (s : State) : Result := .next (s.alu16 .sbb e imm)

/-- SBB Eb,Ib by the byte 82, as 80 (46_undocumented.md R447). -/
def execSbbEbIb82 (e : RM Reg8) (imm : Byte) (s : State) : Result := .next (s.alu8 .sbb e imm)

/-- SBB Ev,Ib (sign-extended) (R261). -/
def execSbbEvIbSx (e : RM Reg) (imm : Byte) (s : State) : Result := .next (s.alu16 .sbb e (sext16 imm))

/-- CMP Eb,Gb (R262). -/
def execCmpEbGb (e : RM Reg8) (g : Reg8) (s : State) : Result := .next (s.alu8 .cmp e (s.regs.get8 g))

/-- CMP Ev,Gv (R262). -/
def execCmpEvGv (e : RM Reg) (g : Reg) (s : State) : Result := .next (s.alu16 .cmp e (s.regs.get g))

/-- CMP Gb,Eb (R262). -/
def execCmpGbEb (g : Reg8) (e : RM Reg8) (s : State) : Result := .next (s.alu8 .cmp (.reg g) (s.rdE8 e))

/-- CMP Gv,Ev (R262). -/
def execCmpGvEv (g : Reg) (e : RM Reg) (s : State) : Result := .next (s.alu16 .cmp (.reg g) (s.rdE16 e))

/-- CMP AL,Ib (R262). -/
def execCmpAlIb (imm : Byte) (s : State) : Result := .next (s.alu8 .cmp (.reg .al) imm)

/-- CMP AX,Iv (R262). -/
def execCmpAxIv (imm : Word) (s : State) : Result := .next (s.alu16 .cmp (.reg .ax) imm)

/-- CMP Eb,Ib (R262). -/
def execCmpEbIb (e : RM Reg8) (imm : Byte) (s : State) : Result := .next (s.alu8 .cmp e imm)

/-- CMP Ev,Iv (R262). -/
def execCmpEvIv (e : RM Reg) (imm : Word) (s : State) : Result := .next (s.alu16 .cmp e imm)

/-- CMP Eb,Ib by the byte 82, as 80 (46_undocumented.md R447). -/
def execCmpEbIb82 (e : RM Reg8) (imm : Byte) (s : State) : Result := .next (s.alu8 .cmp e imm)

/-- CMP Ev,Ib (sign-extended) (R262). -/
def execCmpEvIbSx (e : RM Reg) (imm : Byte) (s : State) : Result := .next (s.alu16 .cmp e (sext16 imm))

/-- DEC r16 (R263). -/
def execDecR16 (r : Reg) (s : State) : Result := .next (s.dec16 (.reg r))

/-- DEC Eb (R263). -/
def execDecEb (e : RM Reg8) (s : State) : Result := .next (s.dec8 e)

/-- DEC Ev (R263). -/
def execDecEv (e : RM Reg) (s : State) : Result := .next (s.dec16 e)

/-- NEG Eb (R264). -/
def execNegEb (e : RM Reg8) (s : State) : Result :=
  .next ((s.setFlags (subFlags 0#8 (s.rdE8 e) false s.flags)).wr8 (s.locate e)
    (subResult 0#8 (s.rdE8 e) false))

/-- NEG Ev (R264). -/
def execNegEv (e : RM Reg) (s : State) : Result :=
  .next ((s.setFlags (subFlags 0#16 (s.rdE16 e) false s.flags)).wr16 (s.locate e)
    (subResult 0#16 (s.rdE16 e) false))

/-- AAS (R265). -/
def execAas (s : State) : Result :=
  .next (((s.setReg .ax (aasResult s.regs.ax s.flags.AF)).setFlags
    (asciiFlags (loByte s.regs.ax) (s.freeBit 0) (s.freeBit 1) (s.freeBit 2) (s.freeBit 3) s.flags)).advance 4)

/-- DAS (R266). -/
def execDas (s : State) : Result :=
  .next (((s.setReg8 .al (dasResult (loByte s.regs.ax) s.flags.AF s.flags.CF)).setFlags
    (dasFlags (loByte s.regs.ax) (s.freeBit 0) s.flags)).advance 1)

/-- MUL Eb (R267). -/
def execMulEb (e : RM Reg8) (s : State) : Result :=
  s.mulGuard ((s.setReg .ax (mulU (s.regs.get8 .al) (s.rdE8 e))).mulEnd
    (mulUCarry (mulU (s.regs.get8 .al) (s.rdE8 e))))

/-- MUL Ev (R267). -/
def execMulEv (e : RM Reg) (s : State) : Result :=
  s.mulGuard ((s.setPair (mulU s.regs.ax (s.rdE16 e))).mulEnd (mulUCarry (mulU s.regs.ax (s.rdE16 e))))

/-- IMUL Eb (R268). -/
def execImulEb (e : RM Reg8) (s : State) : Result :=
  s.mulGuard ((s.setReg .ax (mulS (s.regs.get8 .al) (s.rdE8 e))).mulEnd
    (mulSCarry (mulS (s.regs.get8 .al) (s.rdE8 e))))

/-- IMUL Ev (R268). -/
def execImulEv (e : RM Reg) (s : State) : Result :=
  s.mulGuard ((s.setPair (mulS s.regs.ax (s.rdE16 e))).mulEnd (mulSCarry (mulS s.regs.ax (s.rdE16 e))))

/-- AAD (R269); refused under `compat` (R275). -/
def execAadIb (imm : Byte) (s : State) : Result :=
  match s.cfg.cpuVariant with
  | .intel =>
    let al := aadResult (s.regs.get8 .ah) (s.regs.get8 .al) imm
    .next (((s.setReg .ax (mkWord 0#8 al)).setFlags
      (aamFlags al (s.freeBit 0) (s.freeBit 1) (s.freeBit 2) s.flags)).advance 3)
  | .compat => .refused .compatVariantMultiply

/-- DIV Eb (R270); refused with a REP prefix (43_string.md R348). -/
def execDivEb (e : RM Reg8) (s : State) : Result :=
  if s.rep.isSome then .refused .repeatedMultiplyDivide
  else .next (s.divide8 (divU (s.regs.get8 .ah) (s.regs.get8 .al) (s.rdE8 e)))

/-- DIV Ev (R270); refused with a REP prefix (43_string.md R348). -/
def execDivEv (e : RM Reg) (s : State) : Result :=
  if s.rep.isSome then .refused .repeatedMultiplyDivide
  else .next (s.divide16 (divU s.regs.dx s.regs.ax (s.rdE16 e)))

/-- IDIV Eb (R271); refused with a REP prefix (43_string.md R348). -/
def execIdivEb (e : RM Reg8) (s : State) : Result :=
  if s.rep.isSome then .refused .repeatedMultiplyDivide
  else .next (s.divide8 (divS (s.regs.get8 .ah) (s.regs.get8 .al) (s.rdE8 e)))

/-- IDIV Ev (R271); refused with a REP prefix (43_string.md R348). -/
def execIdivEv (e : RM Reg) (s : State) : Result :=
  if s.rep.isSome then .refused .repeatedMultiplyDivide
  else .next (s.divide16 (divS s.regs.dx s.regs.ax (s.rdE16 e)))

/-- AAM (R272); base 0 raises the divide error. -/
def execAamIb (imm : Byte) (s : State) : Result :=
  if imm = 0#8 then .next s.divideError
  else
    let al := s.regs.get8 .al
    .next (((s.setReg .ax (mkWord (al / imm) (al % imm))).setFlags
      (aamFlags (al % imm) (s.freeBit 0) (s.freeBit 1) (s.freeBit 2) s.flags)).advance 3)

/-- CBW (R273). -/
def execCbw (s : State) : Result := .next (s.setReg .ax (sext16 (loByte s.regs.ax)))

/-- CWD (R274). -/
def execCwd (s : State) : Result :=
  .next (s.setReg .dx (if s.regs.ax.msb then 0xFFFF#16 else 0#16))

end Sys2Proof.Machine
end

