-- ==== Sys2Proof/Machine/Control.lean ====
section
/-! DEFINITION. The control-transfer instructions (44_control.md). -/

namespace Sys2Proof.Machine

open Sys2Proof

namespace State

/-- CALL near (R371, R372): the target is taken before the push. -/
def callNear (s : State) (t : Word) : State := (s.push16 s.ip).jump t

/-- CALL far (R373, R374): CS, then the return offset are pushed. -/
def callFar (s : State) (sg off : Word) : State := ((s.push16 s.segs.cs).push16 s.ip).farJump sg off

/-- RET near (R380, R381), releasing `n` bytes. -/
def retNear (s : State) (n : Word) : State := ((s.pop16).2.release n).jump (s.pop16).1

/-- RETF (R382, R383), releasing `n` bytes: the offset is popped first. -/
def retFar (s : State) (n : Word) : State :=
  let p := s.pop16
  let q := p.2.pop16
  (q.2.release n).farJump q.1 p.1

/-- A conditional short jump (R384): not taken, it changes nothing and does not flush. -/
def jumpIf (s : State) (c : Bool) (rel : Byte) : State := if c then s.jump (s.ip + sext16 rel) else s

/-- LOOP, LOOPZ and LOOPNZ (R401 to R403). -/
def loop (s : State) (c : Bool) (rel : Byte) : State :=
  (s.setReg .cx (s.regs.cx - 1#16)).jumpIf (s.regs.cx - 1#16 != 0#16 && c) rel

end State

/-- CALL rel16 (R371). -/
def execCallRel16 (rel : Word) (s : State) : Result := .next (s.callNear (s.ip + rel))

/-- CALL Ev (R372). -/
def execCallEv (e : RM Reg) (s : State) : Result := .next (s.callNear (s.rdE16 e))

/-- CALL Ap (R373). -/
def execCallAp (off : Word) (sg : Word) (s : State) : Result := .next (s.callFar sg off)

/-- CALL Mp (R374); a register operand is refused (46_undocumented.md R450). -/
def execCallMp (e : RM Reg) (s : State) : Result :=
  match s.farPointer e with
  | some (off, sg) => .next (s.callFar sg off)
  | none => .refused .registerWhereMemoryRequired

/-- JMP rel8 (R375). -/
def execJmpRel8 (rel : Byte) (s : State) : Result := .next (s.jump (s.ip + sext16 rel))

/-- JMP rel16 (R376). -/
def execJmpRel16 (rel : Word) (s : State) : Result := .next (s.jump (s.ip + rel))

/-- JMP Ev (R377). -/
def execJmpEv (e : RM Reg) (s : State) : Result := .next (s.jump (s.rdE16 e))

/-- JMP Ap (R378). -/
def execJmpAp (off : Word) (sg : Word) (s : State) : Result := .next (s.farJump sg off)

/-- JMP Mp (R379); a register operand is refused (46_undocumented.md R450). -/
def execJmpMp (e : RM Reg) (s : State) : Result :=
  match s.farPointer e with
  | some (off, sg) => .next (s.farJump sg off)
  | none => .refused .registerWhereMemoryRequired

/-- RET (R380). -/
def execRet (s : State) : Result := .next (s.retNear 0#16)

/-- RET Iw (R381). -/
def execRetIw (imm : Word) (s : State) : Result := .next (s.retNear imm)

/-- RETF (R382). -/
def execRetf (s : State) : Result := .next (s.retFar 0#16)

/-- RETF Iw (R383). -/
def execRetfIw (imm : Word) (s : State) : Result := .next (s.retFar imm)

/-- JO rel8 (R385). -/
def execJoRel8 (rel : Byte) (s : State) : Result := .next (s.jumpIf (Cond.holds s.flags .o) rel)

/-- JNO rel8 (R386). -/
def execJnoRel8 (rel : Byte) (s : State) : Result := .next (s.jumpIf (Cond.holds s.flags .no) rel)

/-- JB rel8 (R387). -/
def execJbRel8 (rel : Byte) (s : State) : Result := .next (s.jumpIf (Cond.holds s.flags .b) rel)

/-- JNB rel8 (R388). -/
def execJnbRel8 (rel : Byte) (s : State) : Result := .next (s.jumpIf (Cond.holds s.flags .nb) rel)

/-- JE rel8 (R389). -/
def execJeRel8 (rel : Byte) (s : State) : Result := .next (s.jumpIf (Cond.holds s.flags .e) rel)

/-- JNE rel8 (R390). -/
def execJneRel8 (rel : Byte) (s : State) : Result := .next (s.jumpIf (Cond.holds s.flags .ne) rel)

/-- JBE rel8 (R391). -/
def execJbeRel8 (rel : Byte) (s : State) : Result := .next (s.jumpIf (Cond.holds s.flags .be) rel)

/-- JA rel8 (R392). -/
def execJaRel8 (rel : Byte) (s : State) : Result := .next (s.jumpIf (Cond.holds s.flags .a) rel)

/-- JS rel8 (R393). -/
def execJsRel8 (rel : Byte) (s : State) : Result := .next (s.jumpIf (Cond.holds s.flags .s) rel)

/-- JNS rel8 (R394). -/
def execJnsRel8 (rel : Byte) (s : State) : Result := .next (s.jumpIf (Cond.holds s.flags .ns) rel)

/-- JP rel8 (R395). -/
def execJpRel8 (rel : Byte) (s : State) : Result := .next (s.jumpIf (Cond.holds s.flags .p) rel)

/-- JNP rel8 (R396). -/
def execJnpRel8 (rel : Byte) (s : State) : Result := .next (s.jumpIf (Cond.holds s.flags .np) rel)

/-- JL rel8 (R397). -/
def execJlRel8 (rel : Byte) (s : State) : Result := .next (s.jumpIf (Cond.holds s.flags .l) rel)

/-- JGE rel8 (R398). -/
def execJgeRel8 (rel : Byte) (s : State) : Result := .next (s.jumpIf (Cond.holds s.flags .ge) rel)

/-- JLE rel8 (R399). -/
def execJleRel8 (rel : Byte) (s : State) : Result := .next (s.jumpIf (Cond.holds s.flags .le) rel)

/-- JG rel8 (R400). -/
def execJgRel8 (rel : Byte) (s : State) : Result := .next (s.jumpIf (Cond.holds s.flags .g) rel)

/-- LOOP rel8 (R401). -/
def execLoopRel8 (rel : Byte) (s : State) : Result := .next (s.loop true rel)

/-- LOOPZ rel8 (R402). -/
def execLoopzRel8 (rel : Byte) (s : State) : Result := .next (s.loop s.flags.ZF rel)

/-- LOOPNZ rel8 (R403). -/
def execLoopnzRel8 (rel : Byte) (s : State) : Result := .next (s.loop (!s.flags.ZF) rel)

/-- JCXZ rel8 (R404). -/
def execJcxzRel8 (rel : Byte) (s : State) : Result := .next (s.jumpIf (s.regs.cx == 0#16) rel)

/-- INT Ib (R405). -/
def execIntIb (imm : Byte) (s : State) : Result := .next (s.service imm s.ip)

/-- INT3 (R406). -/
def execInt3 (s : State) : Result := .next (s.service 3#8 s.ip)

/-- INTO (R407). -/
def execInto (s : State) : Result := .next (if s.flags.OF then s.service 4#8 s.ip else s)

/-- IRET (R408). -/
def execIret (s : State) : Result := .next s.returnFromInterrupt

end Sys2Proof.Machine
end

