-- ==== Sys2Proof/Machine/DataTransfer.lean ====
section
/-! DEFINITION. The data-transfer instructions (40_data_transfer.md). -/

namespace Sys2Proof.Machine

open Sys2Proof

namespace State

/-- A load of a segment register by MOV or POP (R206, R211): the suppression flag is set; a load of CS
flushes the queue (20_memory.md R102). -/
def loadSeg (s : State) (sr : SReg) (v : Word) : State :=
  let s1 := { s.setSeg sr v with noint := true }
  if sr = .cs then s1.flush else s1

/-- PUSH of a word register (R207): PUSH SP stores the decremented SP. -/
def pushReg (s : State) (r : Reg) : State :=
  if r = .sp then s.push16 (s.regs.sp - 2#16) else s.push16 (s.regs.get r)

/-- PUSH of an E operand (R209): a memory operand is read before SP changes. -/
def pushOperand (s : State) : RM Reg → State
  | .reg r => s.pushReg r
  | .mem m => s.push16 (s.rdE16 (.mem m))

/-- The exchange of AX with another register (R214). -/
def swapAx (s : State) (r : Reg) : State := (s.setReg .ax (s.regs.get r)).setReg r s.regs.ax

/-- A byte input to AL (R216). -/
def inByte (s : State) (p : Word) : State := (s.ioReadByte p).2.setReg8 .al (s.ioReadByte p).1

/-- A word input to AX (R216). -/
def inWord (s : State) (p : Word) : State := (s.ioReadWord p).2.setReg .ax (s.ioReadWord p).1

end State

/-- MOV Eb,Gb (R201). -/
def execMovEbGb (e : RM Reg8) (g : Reg8) (s : State) : Result := .next (s.wr8 (s.locate e) (s.regs.get8 g))

/-- MOV Ev,Gv (R201). -/
def execMovEvGv (e : RM Reg) (g : Reg) (s : State) : Result := .next (s.wr16 (s.locate e) (s.regs.get g))

/-- MOV Gb,Eb (R201). -/
def execMovGbEb (g : Reg8) (e : RM Reg8) (s : State) : Result := .next (s.setReg8 g (s.rdE8 e))

/-- MOV Gv,Ev (R201). -/
def execMovGvEv (g : Reg) (e : RM Reg) (s : State) : Result := .next (s.setReg g (s.rdE16 e))

/-- MOV Eb,Ib (R202). -/
def execMovEbIb (e : RM Reg8) (imm : Byte) (s : State) : Result := .next (s.wr8 (s.locate e) imm)

/-- MOV Ev,Iv (R202). -/
def execMovEvIv (e : RM Reg) (imm : Word) (s : State) : Result := .next (s.wr16 (s.locate e) imm)

/-- MOV r8,Ib (R203). -/
def execMovR8Ib (r : Reg8) (imm : Byte) (s : State) : Result := .next (s.setReg8 r imm)

/-- MOV r16,Iv (R203). -/
def execMovR16Iv (r : Reg) (imm : Word) (s : State) : Result := .next (s.setReg r imm)

/-- MOV AL,Ob (R204). -/
def execMovAlOb (off : Word) (s : State) : Result := .next (s.setReg8 .al (s.readByte (s.segValue .ds) off))

/-- MOV AX,Ov (R204). -/
def execMovAxOv (off : Word) (s : State) : Result := .next (s.setReg .ax (s.readWord (s.segValue .ds) off))

/-- MOV Ob,AL (R204). -/
def execMovObAl (off : Word) (s : State) : Result := .next (s.writeByte (s.segValue .ds) off (s.regs.get8 .al))

/-- MOV Ov,AX (R204). -/
def execMovOvAx (off : Word) (s : State) : Result := .next (s.writeWord (s.segValue .ds) off s.regs.ax)

/-- MOV Ew,Sreg (R205). -/
def execMovEwSreg (e : RM Reg) (sr : SReg) (s : State) : Result := .next (s.wr16 (s.locate e) (s.segs.get sr))

/-- MOV Ew,Sreg with a segment field of 4 to 7: refused (R205, 46_undocumented.md R450). -/
def execMovEwSregBad (_x : BitVec 2) (_e : RM Reg) (_s : State) : Result := .refused .undefinedSegmentRegister

/-- MOV Sreg,Ew (R206). -/
def execMovSregEw (sr : SReg) (e : RM Reg) (s : State) : Result := .next (s.loadSeg sr (s.rdE16 e))

/-- MOV Sreg,Ew with a segment field of 4 to 7: refused (R206, 46_undocumented.md R450). -/
def execMovSregEwBad (_x : BitVec 2) (_e : RM Reg) (_s : State) : Result := .refused .undefinedSegmentRegister

/-- PUSH r16 (R207). -/
def execPushR16 (r : Reg) (s : State) : Result := .next (s.pushReg r)

/-- PUSH ES (R208). -/
def execPushEs (s : State) : Result := .next (s.push16 s.segs.es)

/-- PUSH CS (R208). -/
def execPushCs (s : State) : Result := .next (s.push16 s.segs.cs)

/-- PUSH SS (R208). -/
def execPushSs (s : State) : Result := .next (s.push16 s.segs.ss)

/-- PUSH DS (R208). -/
def execPushDs (s : State) : Result := .next (s.push16 s.segs.ds)

/-- PUSH Ev (R209). -/
def execPushEv (e : RM Reg) (s : State) : Result := .next (s.pushOperand e)

/-- POP r16 (R210). -/
def execPopR16 (r : Reg) (s : State) : Result := .next ((s.pop16).2.setReg r (s.pop16).1)

/-- POP ES (R211). -/
def execPopEs (s : State) : Result := .next ((s.pop16).2.loadSeg .es (s.pop16).1)

/-- POP SS (R211). -/
def execPopSs (s : State) : Result := .next ((s.pop16).2.loadSeg .ss (s.pop16).1)

/-- POP DS (R211). -/
def execPopDs (s : State) : Result := .next ((s.pop16).2.loadSeg .ds (s.pop16).1)

/-- POP Ev (R212): the place of the operand is fixed before SP changes. -/
def execPopEv (e : RM Reg) (s : State) : Result := .next ((s.pop16).2.wr16 (s.locate e) (s.pop16).1)

/-- XCHG Eb,Gb (R213). -/
def execXchgEbGb (e : RM Reg8) (g : Reg8) (s : State) : Result :=
  .next ((s.wr8 (s.locate e) (s.regs.get8 g)).setReg8 g (s.rdE8 e))

/-- XCHG Ev,Gv (R213). -/
def execXchgEvGv (e : RM Reg) (g : Reg) (s : State) : Result :=
  .next ((s.wr16 (s.locate e) (s.regs.get g)).setReg g (s.rdE16 e))

/-- XCHG AX,CX (R214). -/
def execXchgAxCx (s : State) : Result := .next (s.swapAx .cx)

/-- XCHG AX,DX (R214). -/
def execXchgAxDx (s : State) : Result := .next (s.swapAx .dx)

/-- XCHG AX,BX (R214). -/
def execXchgAxBx (s : State) : Result := .next (s.swapAx .bx)

/-- XCHG AX,SP (R214). -/
def execXchgAxSp (s : State) : Result := .next (s.swapAx .sp)

/-- XCHG AX,BP (R214). -/
def execXchgAxBp (s : State) : Result := .next (s.swapAx .bp)

/-- XCHG AX,SI (R214). -/
def execXchgAxSi (s : State) : Result := .next (s.swapAx .si)

/-- XCHG AX,DI (R214). -/
def execXchgAxDi (s : State) : Result := .next (s.swapAx .di)

/-- NOP (R215). -/
def execNop (s : State) : Result := .next s

/-- IN AL,Ib (R216). -/
def execInAlIb (imm : Byte) (s : State) : Result := .next (s.inByte (zext16 imm))

/-- IN AX,Ib (R216). -/
def execInAxIb (imm : Byte) (s : State) : Result := .next (s.inWord (zext16 imm))

/-- IN AL,DX (R216). -/
def execInAlDx (s : State) : Result := .next (s.inByte s.regs.dx)

/-- IN AX,DX (R216). -/
def execInAxDx (s : State) : Result := .next (s.inWord s.regs.dx)

/-- OUT Ib,AL (R217). -/
def execOutIbAl (imm : Byte) (s : State) : Result := .next (s.ioWriteByte (zext16 imm) (s.regs.get8 .al))

/-- OUT Ib,AX (R217). -/
def execOutIbAx (imm : Byte) (s : State) : Result := .next (s.ioWriteWord (zext16 imm) s.regs.ax)

/-- OUT DX,AL (R217). -/
def execOutDxAl (s : State) : Result := .next (s.ioWriteByte s.regs.dx (s.regs.get8 .al))

/-- OUT DX,AX (R217). -/
def execOutDxAx (s : State) : Result := .next (s.ioWriteWord s.regs.dx s.regs.ax)

/-- XLAT (R218). -/
def execXlat (s : State) : Result :=
  .next (s.setReg8 .al (s.readByte (s.segValue .ds) (s.regs.bx + zext16 (s.regs.get8 .al))))

/-- LEA (R219); a register operand is refused (46_undocumented.md R450). -/
def execLeaGvM (g : Reg) (e : RM Reg) (s : State) : Result :=
  match e with
  | .mem m => .next (s.setReg g (effOffset s.regs m))
  | .reg _ => .refused .registerWhereMemoryRequired

/-- LDS (R220); a register operand is refused (46_undocumented.md R450). -/
def execLdsGvMp (g : Reg) (e : RM Reg) (s : State) : Result :=
  match s.farPointer e with
  | some (off, sg) => .next ((s.setReg g off).setSeg .ds sg)
  | none => .refused .registerWhereMemoryRequired

/-- LES (R221); a register operand is refused (46_undocumented.md R450). -/
def execLesGvMp (g : Reg) (e : RM Reg) (s : State) : Result :=
  match s.farPointer e with
  | some (off, sg) => .next ((s.setReg g off).setSeg .es sg)
  | none => .refused .registerWhereMemoryRequired

/-- LAHF (R222). -/
def execLahf (s : State) : Result := .next (s.setReg8 .ah (loByte s.flags.image))

/-- SAHF (R223). -/
def execSahf (s : State) : Result := .next (s.setFlags (s.flags.setLowByte (s.regs.get8 .ah)))

/-- PUSHF (R224). -/
def execPushf (s : State) : Result := .next (s.push16 s.flags.image)

/-- POPF (R225). -/
def execPopf (s : State) : Result := .next ((s.pop16).2.setFlags (Flags.ofImage (s.pop16).1))

end Sys2Proof.Machine
end

