-- ==== Sys2Proof/Machine/Logic.lean ====
section
/-! DEFINITION. The logic, shift and rotate instructions (42_logic.md). -/

namespace Sys2Proof.Machine

open Sys2Proof

namespace State

/-- TEST (R305): the flags of the conjunction, with a drawn AF. -/
def test {n : Nat} (s : State) (a b : BitVec n) : State :=
  (s.setFlags (logicFlags (a &&& b) (s.freeBit 0) s.flags)).advance 1

/-- A shift or rotate of a byte operand (R306): a count of 0 changes nothing. -/
def shift8 (s : State) (op : ShiftOp) (e : RM Reg8) (count : Nat) : State :=
  if count = 0 then s
  else
    let x := s.rdE8 e
    let p := shiftSteps op count (x, s.flags.CF)
    ((s.setFlags (shiftFlags op count x p (s.freeBit 0) (s.freeBit 1) s.flags)).advance 2).wr8
      (s.locate e) p.1

/-- A shift or rotate of a word operand (R306). -/
def shift16 (s : State) (op : ShiftOp) (e : RM Reg) (count : Nat) : State :=
  if count = 0 then s
  else
    let x := s.rdE16 e
    let p := shiftSteps op count (x, s.flags.CF)
    ((s.setFlags (shiftFlags op count x p (s.freeBit 0) (s.freeBit 1) s.flags)).advance 2).wr16
      (s.locate e) p.1

end State

/-- NOT Eb (R301). -/
def execNotEb (e : RM Reg8) (s : State) : Result := .next (s.wr8 (s.locate e) (~~~ s.rdE8 e))

/-- NOT Ev (R301). -/
def execNotEv (e : RM Reg) (s : State) : Result := .next (s.wr16 (s.locate e) (~~~ s.rdE16 e))

/-- AND Eb,Gb (R302). -/
def execAndEbGb (e : RM Reg8) (g : Reg8) (s : State) : Result := .next (s.alu8 .and e (s.regs.get8 g))

/-- AND Ev,Gv (R302). -/
def execAndEvGv (e : RM Reg) (g : Reg) (s : State) : Result := .next (s.alu16 .and e (s.regs.get g))

/-- AND Gb,Eb (R302). -/
def execAndGbEb (g : Reg8) (e : RM Reg8) (s : State) : Result := .next (s.alu8 .and (.reg g) (s.rdE8 e))

/-- AND Gv,Ev (R302). -/
def execAndGvEv (g : Reg) (e : RM Reg) (s : State) : Result := .next (s.alu16 .and (.reg g) (s.rdE16 e))

/-- AND AL,Ib (R302). -/
def execAndAlIb (imm : Byte) (s : State) : Result := .next (s.alu8 .and (.reg .al) imm)

/-- AND AX,Iv (R302). -/
def execAndAxIv (imm : Word) (s : State) : Result := .next (s.alu16 .and (.reg .ax) imm)

/-- AND Eb,Ib (R302). -/
def execAndEbIb (e : RM Reg8) (imm : Byte) (s : State) : Result := .next (s.alu8 .and e imm)

/-- AND Ev,Iv (R302). -/
def execAndEvIv (e : RM Reg) (imm : Word) (s : State) : Result := .next (s.alu16 .and e imm)

/-- AND Eb,Ib by the byte 82, as 80 (46_undocumented.md R447). -/
def execAndEbIb82 (e : RM Reg8) (imm : Byte) (s : State) : Result := .next (s.alu8 .and e imm)

/-- AND Ev,Ib (sign-extended) (R302). -/
def execAndEvIbSx (e : RM Reg) (imm : Byte) (s : State) : Result := .next (s.alu16 .and e (sext16 imm))

/-- OR Eb,Gb (R303). -/
def execOrEbGb (e : RM Reg8) (g : Reg8) (s : State) : Result := .next (s.alu8 .or e (s.regs.get8 g))

/-- OR Ev,Gv (R303). -/
def execOrEvGv (e : RM Reg) (g : Reg) (s : State) : Result := .next (s.alu16 .or e (s.regs.get g))

/-- OR Gb,Eb (R303). -/
def execOrGbEb (g : Reg8) (e : RM Reg8) (s : State) : Result := .next (s.alu8 .or (.reg g) (s.rdE8 e))

/-- OR Gv,Ev (R303). -/
def execOrGvEv (g : Reg) (e : RM Reg) (s : State) : Result := .next (s.alu16 .or (.reg g) (s.rdE16 e))

/-- OR AL,Ib (R303). -/
def execOrAlIb (imm : Byte) (s : State) : Result := .next (s.alu8 .or (.reg .al) imm)

/-- OR AX,Iv (R303). -/
def execOrAxIv (imm : Word) (s : State) : Result := .next (s.alu16 .or (.reg .ax) imm)

/-- OR Eb,Ib (R303). -/
def execOrEbIb (e : RM Reg8) (imm : Byte) (s : State) : Result := .next (s.alu8 .or e imm)

/-- OR Ev,Iv (R303). -/
def execOrEvIv (e : RM Reg) (imm : Word) (s : State) : Result := .next (s.alu16 .or e imm)

/-- OR Eb,Ib by the byte 82, as 80 (46_undocumented.md R447). -/
def execOrEbIb82 (e : RM Reg8) (imm : Byte) (s : State) : Result := .next (s.alu8 .or e imm)

/-- OR Ev,Ib (sign-extended) (R303). -/
def execOrEvIbSx (e : RM Reg) (imm : Byte) (s : State) : Result := .next (s.alu16 .or e (sext16 imm))

/-- XOR Eb,Gb (R304). -/
def execXorEbGb (e : RM Reg8) (g : Reg8) (s : State) : Result := .next (s.alu8 .xor e (s.regs.get8 g))

/-- XOR Ev,Gv (R304). -/
def execXorEvGv (e : RM Reg) (g : Reg) (s : State) : Result := .next (s.alu16 .xor e (s.regs.get g))

/-- XOR Gb,Eb (R304). -/
def execXorGbEb (g : Reg8) (e : RM Reg8) (s : State) : Result := .next (s.alu8 .xor (.reg g) (s.rdE8 e))

/-- XOR Gv,Ev (R304). -/
def execXorGvEv (g : Reg) (e : RM Reg) (s : State) : Result := .next (s.alu16 .xor (.reg g) (s.rdE16 e))

/-- XOR AL,Ib (R304). -/
def execXorAlIb (imm : Byte) (s : State) : Result := .next (s.alu8 .xor (.reg .al) imm)

/-- XOR AX,Iv (R304). -/
def execXorAxIv (imm : Word) (s : State) : Result := .next (s.alu16 .xor (.reg .ax) imm)

/-- XOR Eb,Ib (R304). -/
def execXorEbIb (e : RM Reg8) (imm : Byte) (s : State) : Result := .next (s.alu8 .xor e imm)

/-- XOR Ev,Iv (R304). -/
def execXorEvIv (e : RM Reg) (imm : Word) (s : State) : Result := .next (s.alu16 .xor e imm)

/-- XOR Eb,Ib by the byte 82, as 80 (46_undocumented.md R447). -/
def execXorEbIb82 (e : RM Reg8) (imm : Byte) (s : State) : Result := .next (s.alu8 .xor e imm)

/-- XOR Ev,Ib (sign-extended) (R304). -/
def execXorEvIbSx (e : RM Reg) (imm : Byte) (s : State) : Result := .next (s.alu16 .xor e (sext16 imm))

/-- TEST Eb,Gb (R305). -/
def execTestEbGb (e : RM Reg8) (g : Reg8) (s : State) : Result := .next (s.test (s.rdE8 e) (s.regs.get8 g))

/-- TEST Ev,Gv (R305). -/
def execTestEvGv (e : RM Reg) (g : Reg) (s : State) : Result := .next (s.test (s.rdE16 e) (s.regs.get g))

/-- TEST AL,Ib (R305). -/
def execTestAlIb (imm : Byte) (s : State) : Result := .next (s.test (s.regs.get8 .al) imm)

/-- TEST AX,Iv (R305). -/
def execTestAxIv (imm : Word) (s : State) : Result := .next (s.test s.regs.ax imm)

/-- TEST Eb,Ib (R305). -/
def execTestEbIb (e : RM Reg8) (imm : Byte) (s : State) : Result := .next (s.test (s.rdE8 e) imm)

/-- TEST Ev,Iv (R305). -/
def execTestEvIv (e : RM Reg) (imm : Word) (s : State) : Result := .next (s.test (s.rdE16 e) imm)

/-- ROL Eb,1 (R307). -/
def execRolEb1 (e : RM Reg8) (s : State) : Result := .next (s.shift8 .rol e 1)

/-- ROL Ev,1 (R307). -/
def execRolEv1 (e : RM Reg) (s : State) : Result := .next (s.shift16 .rol e 1)

/-- ROL Eb,CL (R307). -/
def execRolEbCl (e : RM Reg8) (s : State) : Result := .next (s.shift8 .rol e (s.regs.get8 .cl).toNat)

/-- ROL Ev,CL (R307). -/
def execRolEvCl (e : RM Reg) (s : State) : Result := .next (s.shift16 .rol e (s.regs.get8 .cl).toNat)

/-- ROR Eb,1 (R308). -/
def execRorEb1 (e : RM Reg8) (s : State) : Result := .next (s.shift8 .ror e 1)

/-- ROR Ev,1 (R308). -/
def execRorEv1 (e : RM Reg) (s : State) : Result := .next (s.shift16 .ror e 1)

/-- ROR Eb,CL (R308). -/
def execRorEbCl (e : RM Reg8) (s : State) : Result := .next (s.shift8 .ror e (s.regs.get8 .cl).toNat)

/-- ROR Ev,CL (R308). -/
def execRorEvCl (e : RM Reg) (s : State) : Result := .next (s.shift16 .ror e (s.regs.get8 .cl).toNat)

/-- RCL Eb,1 (R309). -/
def execRclEb1 (e : RM Reg8) (s : State) : Result := .next (s.shift8 .rcl e 1)

/-- RCL Ev,1 (R309). -/
def execRclEv1 (e : RM Reg) (s : State) : Result := .next (s.shift16 .rcl e 1)

/-- RCL Eb,CL (R309). -/
def execRclEbCl (e : RM Reg8) (s : State) : Result := .next (s.shift8 .rcl e (s.regs.get8 .cl).toNat)

/-- RCL Ev,CL (R309). -/
def execRclEvCl (e : RM Reg) (s : State) : Result := .next (s.shift16 .rcl e (s.regs.get8 .cl).toNat)

/-- RCR Eb,1 (R310). -/
def execRcrEb1 (e : RM Reg8) (s : State) : Result := .next (s.shift8 .rcr e 1)

/-- RCR Ev,1 (R310). -/
def execRcrEv1 (e : RM Reg) (s : State) : Result := .next (s.shift16 .rcr e 1)

/-- RCR Eb,CL (R310). -/
def execRcrEbCl (e : RM Reg8) (s : State) : Result := .next (s.shift8 .rcr e (s.regs.get8 .cl).toNat)

/-- RCR Ev,CL (R310). -/
def execRcrEvCl (e : RM Reg) (s : State) : Result := .next (s.shift16 .rcr e (s.regs.get8 .cl).toNat)

/-- SHL Eb,1 (R311). -/
def execShlEb1 (e : RM Reg8) (s : State) : Result := .next (s.shift8 .shl e 1)

/-- SHL Ev,1 (R311). -/
def execShlEv1 (e : RM Reg) (s : State) : Result := .next (s.shift16 .shl e 1)

/-- SHL Eb,CL (R311). -/
def execShlEbCl (e : RM Reg8) (s : State) : Result := .next (s.shift8 .shl e (s.regs.get8 .cl).toNat)

/-- SHL Ev,CL (R311). -/
def execShlEvCl (e : RM Reg) (s : State) : Result := .next (s.shift16 .shl e (s.regs.get8 .cl).toNat)

/-- SHR Eb,1 (R312). -/
def execShrEb1 (e : RM Reg8) (s : State) : Result := .next (s.shift8 .shr e 1)

/-- SHR Ev,1 (R312). -/
def execShrEv1 (e : RM Reg) (s : State) : Result := .next (s.shift16 .shr e 1)

/-- SHR Eb,CL (R312). -/
def execShrEbCl (e : RM Reg8) (s : State) : Result := .next (s.shift8 .shr e (s.regs.get8 .cl).toNat)

/-- SHR Ev,CL (R312). -/
def execShrEvCl (e : RM Reg) (s : State) : Result := .next (s.shift16 .shr e (s.regs.get8 .cl).toNat)

/-- SAR Eb,1 (R313). -/
def execSarEb1 (e : RM Reg8) (s : State) : Result := .next (s.shift8 .sar e 1)

/-- SAR Ev,1 (R313). -/
def execSarEv1 (e : RM Reg) (s : State) : Result := .next (s.shift16 .sar e 1)

/-- SAR Eb,CL (R313). -/
def execSarEbCl (e : RM Reg8) (s : State) : Result := .next (s.shift8 .sar e (s.regs.get8 .cl).toNat)

/-- SAR Ev,CL (R313). -/
def execSarEvCl (e : RM Reg) (s : State) : Result := .next (s.shift16 .sar e (s.regs.get8 .cl).toNat)

end Sys2Proof.Machine
end

