-- ==== Sys2Proof/Machine/Processor.lean ====
section
/-! DEFINITION. Flag and processor control and the prefixes (45_processor_control.md). -/

namespace Sys2Proof.Machine

open Sys2Proof

/-- CLC (R410). -/
def execClc (s : State) : Result := .next (s.setFlags { s.flags with CF := false })

/-- STC (R411). -/
def execStc (s : State) : Result := .next (s.setFlags { s.flags with CF := true })

/-- CMC (R412). -/
def execCmc (s : State) : Result := .next (s.setFlags { s.flags with CF := !s.flags.CF })

/-- CLD (R413). -/
def execCld (s : State) : Result := .next (s.setFlags { s.flags with DF := false })

/-- STD (R414). -/
def execStd (s : State) : Result := .next (s.setFlags { s.flags with DF := true })

/-- CLI (R415). -/
def execCli (s : State) : Result := .next (s.setFlags { s.flags with IF := false })

/-- STI (R416): under `P_STI_SHADOW = 1` the suppression flag is set. -/
def execSti (s : State) : Result :=
  .next
    { s.setFlags { s.flags with IF := true } with noint := s.noint || s.cfg.stiShadow }

/-- HLT (R417). -/
def execHlt (s : State) : Result := .next { s with halted := true }

/-- WAIT (R418): the core has no TEST input and does not wait. -/
def execWait (s : State) : Result := .next s

/-- ESC (R419): the operand is decoded and nothing else happens. -/
def execEsc (_x : BitVec 3) (_y : BitVec 3) (_e : RM Reg) (s : State) : Result := .next s

/-- LOCK (R420): a prefix, which sets the prefix state. -/
def execLock (s : State) : Result := .next { s with lock := true }

/-- The prefix ES: (R421). -/
def execSegEs (s : State) : Result := .next { s with ovr := some .es }

/-- The prefix CS: (R421). -/
def execSegCs (s : State) : Result := .next { s with ovr := some .cs }

/-- The prefix SS: (R421). -/
def execSegSs (s : State) : Result := .next { s with ovr := some .ss }

/-- The prefix DS: (R421). -/
def execSegDs (s : State) : Result := .next { s with ovr := some .ds }

/-- The prefix REPNE (R422). -/
def execRepne (s : State) : Result := .next { s with rep := some .repne }

/-- The prefix REP/REPE (R422). -/
def execRepe (s : State) : Result := .next { s with rep := some .repe }

end Sys2Proof.Machine
end

