-- ==== Sys2Proof/Machine/Strings.lean ====
section
/-! DEFINITION. The string instructions and the REP machinery (43_string.md). -/

namespace Sys2Proof.Machine

open Sys2Proof

/-- The bytes of an element (R340). -/
def elementSize : Width → Word
  | .byte => 1#16
  | .word => 2#16

/-- `terminates(rep, ZF)` (R342). -/
def RepKind.terminates (zf : Bool) : RepKind → Bool
  | .repe => !zf
  | .repne => zf

namespace State

/-- `delta` (R340). -/
def delta (s : State) (w : Width) : Word := if s.flags.DF then -elementSize w else elementSize w

/-- `SI <- SI + delta`. -/
def stepSi (s : State) (w : Width) : State := s.setReg .si (s.regs.si + s.delta w)

/-- `DI <- DI + delta`. -/
def stepDi (s : State) (w : Width) : State := s.setReg .di (s.regs.di + s.delta w)

/-- The flags of comparing two elements of a width (R344, R345). -/
def compare (s : State) : Width → Word → Word → State
  | .byte, a, b => s.setFlags (subFlags (loByte a) (loByte b) false s.flags)
  | .word, a, b => s.setFlags (subFlags a b false s.flags)

/-- An element read from memory, a byte one in the low byte. -/
def readElement (s : State) (w : Width) (sg off : Word) : Word :=
  match w with
  | .byte => zext16 (s.readByte sg off)
  | .word => s.readWord sg off

/-- An element written to memory. -/
def writeElement (s : State) (w : Width) (sg off v : Word) : State :=
  match w with
  | .byte => s.writeByte sg off (loByte v)
  | .word => s.writeWord sg off v

/-- The source element at `(src_seg, SI)` (R340). -/
def sourceElement (s : State) (w : Width) : Word := s.readElement w (s.segValue .ds) s.regs.si

/-- The destination element at `(ES, DI)` (R340). -/
def destElement (s : State) (w : Width) : Word := s.readElement w s.segs.es s.regs.di

/-- The accumulator of a width: AL or AX. -/
def setAccumulator (s : State) (w : Width) (v : Word) : State :=
  match w with
  | .byte => s.setReg8 .al (loByte v)
  | .word => s.setReg .ax v

/-- One element of a string operation (R343 to R347). -/
def element (s : State) (x : StrInsn) : State :=
  match x.op with
  | .movs =>
    ((s.writeElement x.width s.segs.es s.regs.di (s.sourceElement x.width)).stepSi x.width).stepDi x.width
  | .cmps =>
    ((s.compare x.width (s.sourceElement x.width) (s.destElement x.width)).stepSi x.width).stepDi x.width
  | .scas => (s.compare x.width s.regs.ax (s.destElement x.width)).stepDi x.width
  | .lods => (s.setAccumulator x.width (s.sourceElement x.width)).stepSi x.width
  | .stos => (s.writeElement x.width s.segs.es s.regs.di s.regs.ax).stepDi x.width

/-- CMPS and SCAS are the operations whose comparison can end a repeat (R342). -/
def comparisonEnds (s : State) (x : StrInsn) : Bool :=
  match x.op with
  | .cmps => s.rep.any (RepKind.terminates s.flags.ZF)
  | .scas => s.rep.any (RepKind.terminates s.flags.ZF)
  | .movs => false
  | .lods => false
  | .stos => false

/-- `resume_ip` (R341): the last prefix, or the first, by `P_REP_RESUME`. -/
def resumeIp (s : State) : Word :=
  match s.cfg.repResume with
  | .lastPrefix => s.opIp - 1#16
  | .firstPrefix => s.startIp

/-- REP-ITERATION (R341). `repeating` is none after it where the instruction ends. -/
def repIteration (s : State) (x : StrInsn) : State :=
  if s.regs.cx = 0#16 then { s with repeating := none }
  else if s.repeating.isSome && s.interruptPending then { s.jump s.resumeIp with repeating := none }
  else
    let s1 := (s.setReg .cx (s.regs.cx - 1#16)).element x
    if s1.comparisonEnds x || s1.regs.cx == 0#16 then { s1 with repeating := none }
    else { s1 with repeating := some x }

/-- A string opcode: one element, or with a REP prefix the first REP-ITERATION (R340, R341). -/
def stringInsn (s : State) (x : StrInsn) : State :=
  match s.rep with
  | none => s.element x
  | some _ => s.repIteration x

end State

/-- MOVSB (R343). -/
def execMovsb (s : State) : Result := .next (s.stringInsn ⟨.movs, .byte⟩)

/-- MOVSW (R343). -/
def execMovsw (s : State) : Result := .next (s.stringInsn ⟨.movs, .word⟩)

/-- CMPSB (R344). -/
def execCmpsb (s : State) : Result := .next (s.stringInsn ⟨.cmps, .byte⟩)

/-- CMPSW (R344). -/
def execCmpsw (s : State) : Result := .next (s.stringInsn ⟨.cmps, .word⟩)

/-- SCASB (R345). -/
def execScasb (s : State) : Result := .next (s.stringInsn ⟨.scas, .byte⟩)

/-- SCASW (R345). -/
def execScasw (s : State) : Result := .next (s.stringInsn ⟨.scas, .word⟩)

/-- LODSB (R346). -/
def execLodsb (s : State) : Result := .next (s.stringInsn ⟨.lods, .byte⟩)

/-- LODSW (R346). -/
def execLodsw (s : State) : Result := .next (s.stringInsn ⟨.lods, .word⟩)

/-- STOSB (R347). -/
def execStosb (s : State) : Result := .next (s.stringInsn ⟨.stos, .byte⟩)

/-- STOSW (R347). -/
def execStosw (s : State) : Result := .next (s.stringInsn ⟨.stos, .word⟩)

end Sys2Proof.Machine
end

