-- ==== Sys2Proof/Machine/Undocumented.lean ====
section
/-! DEFINITION. Undocumented opcodes, unknown opcodes and the forms the spec refuses (46_undocumented.md). -/

namespace Sys2Proof.Machine

open Sys2Proof

/-- POP CS (R441). -/
def execPopCs (s : State) : Result := .next ((s.pop16).2.loadSeg .cs (s.pop16).1)

/-- 60+cccc, the conditional jump 70+cccc (R442). -/
def execJccAlias (cc : BitVec 4) (rel : Byte) (s : State) : Result := .next (s.jumpIf (Cond.holds s.flags (Cond.ofCode cc)) rel)

/-- C0, as C2 (R443). -/
def execRetIwC0 (imm : Word) (s : State) : Result := .next (s.retNear imm)

/-- C1, as C3 (R443). -/
def execRetC1 (s : State) : Result := .next (s.retNear 0#16)

/-- C8, as CA (R444). -/
def execRetfIwC8 (imm : Word) (s : State) : Result := .next (s.retFar imm)

/-- C9, as CB (R444). -/
def execRetfC9 (s : State) : Result := .next (s.retFar 0#16)

/-- SALC (R445). -/
def execSalc (s : State) : Result := .next (s.setReg8 .al (if s.flags.CF then 0xFF#8 else 0#8))

/-- F1, a second LOCK prefix (R446). -/
def execLockF1 (s : State) : Result := .next { s with lock := true }

/-- F6 /1, as F6 /0 (R448); refused under `noop` (R440, R450). -/
def execTestEbIbF1 (e : RM Reg8) (imm : Byte) (s : State) : Result :=
  match s.cfg.undoc with
  | .silicon => .next (s.test (s.rdE8 e) imm)
  | .noop => .refused .undocumentedTest

/-- F7 /1, as F7 /0 (R448); refused under `noop` (R440, R450). -/
def execTestEvIvF1 (e : RM Reg) (imm : Word) (s : State) : Result :=
  match s.cfg.undoc with
  | .silicon => .next (s.test (s.rdE16 e) imm)
  | .noop => .refused .undocumentedTest

/-- An opcode byte outside the known set (R449): one byte, no effect. -/
def execUnknownOpcode (_b : Byte) (s : State) : Result := .next { s with ip := s.opIp + 1#16 }

/-- 8F /1: refused (R450). -/
def execRefused8F1 (_e : RM Reg) (_imm : Unit) (_s : State) : Result := .refused .undefinedGroupForm

/-- 8F /2: refused (R450). -/
def execRefused8F2 (_e : RM Reg) (_imm : Unit) (_s : State) : Result := .refused .undefinedGroupForm

/-- 8F /3: refused (R450). -/
def execRefused8F3 (_e : RM Reg) (_imm : Unit) (_s : State) : Result := .refused .undefinedGroupForm

/-- 8F /4: refused (R450). -/
def execRefused8F4 (_e : RM Reg) (_imm : Unit) (_s : State) : Result := .refused .undefinedGroupForm

/-- 8F /5: refused (R450). -/
def execRefused8F5 (_e : RM Reg) (_imm : Unit) (_s : State) : Result := .refused .undefinedGroupForm

/-- 8F /6: refused (R450). -/
def execRefused8F6 (_e : RM Reg) (_imm : Unit) (_s : State) : Result := .refused .undefinedGroupForm

/-- 8F /7: refused (R450). -/
def execRefused8F7 (_e : RM Reg) (_imm : Unit) (_s : State) : Result := .refused .undefinedGroupForm

/-- C6 /1: refused (R450). -/
def execRefusedC61 (_e : RM Reg8) (_imm : Byte) (_s : State) : Result := .refused .undefinedGroupForm

/-- C6 /2: refused (R450). -/
def execRefusedC62 (_e : RM Reg8) (_imm : Byte) (_s : State) : Result := .refused .undefinedGroupForm

/-- C6 /3: refused (R450). -/
def execRefusedC63 (_e : RM Reg8) (_imm : Byte) (_s : State) : Result := .refused .undefinedGroupForm

/-- C6 /4: refused (R450). -/
def execRefusedC64 (_e : RM Reg8) (_imm : Byte) (_s : State) : Result := .refused .undefinedGroupForm

/-- C6 /5: refused (R450). -/
def execRefusedC65 (_e : RM Reg8) (_imm : Byte) (_s : State) : Result := .refused .undefinedGroupForm

/-- C6 /6: refused (R450). -/
def execRefusedC66 (_e : RM Reg8) (_imm : Byte) (_s : State) : Result := .refused .undefinedGroupForm

/-- C6 /7: refused (R450). -/
def execRefusedC67 (_e : RM Reg8) (_imm : Byte) (_s : State) : Result := .refused .undefinedGroupForm

/-- C7 /1: refused (R450). -/
def execRefusedC71 (_e : RM Reg) (_imm : Word) (_s : State) : Result := .refused .undefinedGroupForm

/-- C7 /2: refused (R450). -/
def execRefusedC72 (_e : RM Reg) (_imm : Word) (_s : State) : Result := .refused .undefinedGroupForm

/-- C7 /3: refused (R450). -/
def execRefusedC73 (_e : RM Reg) (_imm : Word) (_s : State) : Result := .refused .undefinedGroupForm

/-- C7 /4: refused (R450). -/
def execRefusedC74 (_e : RM Reg) (_imm : Word) (_s : State) : Result := .refused .undefinedGroupForm

/-- C7 /5: refused (R450). -/
def execRefusedC75 (_e : RM Reg) (_imm : Word) (_s : State) : Result := .refused .undefinedGroupForm

/-- C7 /6: refused (R450). -/
def execRefusedC76 (_e : RM Reg) (_imm : Word) (_s : State) : Result := .refused .undefinedGroupForm

/-- C7 /7: refused (R450). -/
def execRefusedC77 (_e : RM Reg) (_imm : Word) (_s : State) : Result := .refused .undefinedGroupForm

/-- D0 /6: refused (R450). -/
def execRefusedD06 (_e : RM Reg8) (_imm : Unit) (_s : State) : Result := .refused .undefinedGroupForm

/-- D1 /6: refused (R450). -/
def execRefusedD16 (_e : RM Reg) (_imm : Unit) (_s : State) : Result := .refused .undefinedGroupForm

/-- D2 /6: refused (R450). -/
def execRefusedD26 (_e : RM Reg8) (_imm : Unit) (_s : State) : Result := .refused .undefinedGroupForm

/-- D3 /6: refused (R450). -/
def execRefusedD36 (_e : RM Reg) (_imm : Unit) (_s : State) : Result := .refused .undefinedGroupForm

/-- FE /2: refused (R450). -/
def execRefusedFE2 (_e : RM Reg8) (_imm : Unit) (_s : State) : Result := .refused .undefinedGroupForm

/-- FE /3: refused (R450). -/
def execRefusedFE3 (_e : RM Reg8) (_imm : Unit) (_s : State) : Result := .refused .undefinedGroupForm

/-- FE /4: refused (R450). -/
def execRefusedFE4 (_e : RM Reg8) (_imm : Unit) (_s : State) : Result := .refused .undefinedGroupForm

/-- FE /5: refused (R450). -/
def execRefusedFE5 (_e : RM Reg8) (_imm : Unit) (_s : State) : Result := .refused .undefinedGroupForm

/-- FE /6: refused (R450). -/
def execRefusedFE6 (_e : RM Reg8) (_imm : Unit) (_s : State) : Result := .refused .undefinedGroupForm

/-- FE /7: refused (R450). -/
def execRefusedFE7 (_e : RM Reg8) (_imm : Unit) (_s : State) : Result := .refused .undefinedGroupForm

/-- FF /7: refused (R450). -/
def execRefusedFF7 (_e : RM Reg) (_imm : Unit) (_s : State) : Result := .refused .undefinedGroupForm

end Sys2Proof.Machine
end

