-- ==== Sys2Proof/Machine/Dispatch.lean ====
section
/-! DEFINITION. Dispatch: one arm per instruction, each a direct call of its meaning. EXECUTE and
WRITEBACK of 30_encoding.md R156; the start and end of an instruction are `step`'s. -/

namespace Sys2Proof.Machine

open Sys2Proof

def exec (i : Instr) (s : State) : Host.Outcome State Fault Refusal :=
  match i with
  | .addEbGb e g => Sys2Proof.Machine.execAddEbGb e g s
  | .addEvGv e g => Sys2Proof.Machine.execAddEvGv e g s
  | .addGbEb g e => Sys2Proof.Machine.execAddGbEb g e s
  | .addGvEv g e => Sys2Proof.Machine.execAddGvEv g e s
  | .addAlIb imm => Sys2Proof.Machine.execAddAlIb imm s
  | .addAxIv imm => Sys2Proof.Machine.execAddAxIv imm s
  | .orEbGb e g => Sys2Proof.Machine.execOrEbGb e g s
  | .orEvGv e g => Sys2Proof.Machine.execOrEvGv e g s
  | .orGbEb g e => Sys2Proof.Machine.execOrGbEb g e s
  | .orGvEv g e => Sys2Proof.Machine.execOrGvEv g e s
  | .orAlIb imm => Sys2Proof.Machine.execOrAlIb imm s
  | .orAxIv imm => Sys2Proof.Machine.execOrAxIv imm s
  | .adcEbGb e g => Sys2Proof.Machine.execAdcEbGb e g s
  | .adcEvGv e g => Sys2Proof.Machine.execAdcEvGv e g s
  | .adcGbEb g e => Sys2Proof.Machine.execAdcGbEb g e s
  | .adcGvEv g e => Sys2Proof.Machine.execAdcGvEv g e s
  | .adcAlIb imm => Sys2Proof.Machine.execAdcAlIb imm s
  | .adcAxIv imm => Sys2Proof.Machine.execAdcAxIv imm s
  | .sbbEbGb e g => Sys2Proof.Machine.execSbbEbGb e g s
  | .sbbEvGv e g => Sys2Proof.Machine.execSbbEvGv e g s
  | .sbbGbEb g e => Sys2Proof.Machine.execSbbGbEb g e s
  | .sbbGvEv g e => Sys2Proof.Machine.execSbbGvEv g e s
  | .sbbAlIb imm => Sys2Proof.Machine.execSbbAlIb imm s
  | .sbbAxIv imm => Sys2Proof.Machine.execSbbAxIv imm s
  | .andEbGb e g => Sys2Proof.Machine.execAndEbGb e g s
  | .andEvGv e g => Sys2Proof.Machine.execAndEvGv e g s
  | .andGbEb g e => Sys2Proof.Machine.execAndGbEb g e s
  | .andGvEv g e => Sys2Proof.Machine.execAndGvEv g e s
  | .andAlIb imm => Sys2Proof.Machine.execAndAlIb imm s
  | .andAxIv imm => Sys2Proof.Machine.execAndAxIv imm s
  | .subEbGb e g => Sys2Proof.Machine.execSubEbGb e g s
  | .subEvGv e g => Sys2Proof.Machine.execSubEvGv e g s
  | .subGbEb g e => Sys2Proof.Machine.execSubGbEb g e s
  | .subGvEv g e => Sys2Proof.Machine.execSubGvEv g e s
  | .subAlIb imm => Sys2Proof.Machine.execSubAlIb imm s
  | .subAxIv imm => Sys2Proof.Machine.execSubAxIv imm s
  | .xorEbGb e g => Sys2Proof.Machine.execXorEbGb e g s
  | .xorEvGv e g => Sys2Proof.Machine.execXorEvGv e g s
  | .xorGbEb g e => Sys2Proof.Machine.execXorGbEb g e s
  | .xorGvEv g e => Sys2Proof.Machine.execXorGvEv g e s
  | .xorAlIb imm => Sys2Proof.Machine.execXorAlIb imm s
  | .xorAxIv imm => Sys2Proof.Machine.execXorAxIv imm s
  | .cmpEbGb e g => Sys2Proof.Machine.execCmpEbGb e g s
  | .cmpEvGv e g => Sys2Proof.Machine.execCmpEvGv e g s
  | .cmpGbEb g e => Sys2Proof.Machine.execCmpGbEb g e s
  | .cmpGvEv g e => Sys2Proof.Machine.execCmpGvEv g e s
  | .cmpAlIb imm => Sys2Proof.Machine.execCmpAlIb imm s
  | .cmpAxIv imm => Sys2Proof.Machine.execCmpAxIv imm s
  | .pushEs => Sys2Proof.Machine.execPushEs s
  | .pushCs => Sys2Proof.Machine.execPushCs s
  | .pushSs => Sys2Proof.Machine.execPushSs s
  | .pushDs => Sys2Proof.Machine.execPushDs s
  | .popEs => Sys2Proof.Machine.execPopEs s
  | .popSs => Sys2Proof.Machine.execPopSs s
  | .popDs => Sys2Proof.Machine.execPopDs s
  | .popCs => Sys2Proof.Machine.execPopCs s
  | .segEs => Sys2Proof.Machine.execSegEs s
  | .segCs => Sys2Proof.Machine.execSegCs s
  | .segSs => Sys2Proof.Machine.execSegSs s
  | .segDs => Sys2Proof.Machine.execSegDs s
  | .daa => Sys2Proof.Machine.execDaa s
  | .das => Sys2Proof.Machine.execDas s
  | .aaa => Sys2Proof.Machine.execAaa s
  | .aas => Sys2Proof.Machine.execAas s
  | .incR16 r => Sys2Proof.Machine.execIncR16 r s
  | .decR16 r => Sys2Proof.Machine.execDecR16 r s
  | .pushR16 r => Sys2Proof.Machine.execPushR16 r s
  | .popR16 r => Sys2Proof.Machine.execPopR16 r s
  | .jccAlias cc rel => Sys2Proof.Machine.execJccAlias cc rel s
  | .joRel8 rel => Sys2Proof.Machine.execJoRel8 rel s
  | .jnoRel8 rel => Sys2Proof.Machine.execJnoRel8 rel s
  | .jbRel8 rel => Sys2Proof.Machine.execJbRel8 rel s
  | .jnbRel8 rel => Sys2Proof.Machine.execJnbRel8 rel s
  | .jeRel8 rel => Sys2Proof.Machine.execJeRel8 rel s
  | .jneRel8 rel => Sys2Proof.Machine.execJneRel8 rel s
  | .jbeRel8 rel => Sys2Proof.Machine.execJbeRel8 rel s
  | .jaRel8 rel => Sys2Proof.Machine.execJaRel8 rel s
  | .jsRel8 rel => Sys2Proof.Machine.execJsRel8 rel s
  | .jnsRel8 rel => Sys2Proof.Machine.execJnsRel8 rel s
  | .jpRel8 rel => Sys2Proof.Machine.execJpRel8 rel s
  | .jnpRel8 rel => Sys2Proof.Machine.execJnpRel8 rel s
  | .jlRel8 rel => Sys2Proof.Machine.execJlRel8 rel s
  | .jgeRel8 rel => Sys2Proof.Machine.execJgeRel8 rel s
  | .jleRel8 rel => Sys2Proof.Machine.execJleRel8 rel s
  | .jgRel8 rel => Sys2Proof.Machine.execJgRel8 rel s
  | .addEbIb e imm => Sys2Proof.Machine.execAddEbIb e imm s
  | .orEbIb e imm => Sys2Proof.Machine.execOrEbIb e imm s
  | .adcEbIb e imm => Sys2Proof.Machine.execAdcEbIb e imm s
  | .sbbEbIb e imm => Sys2Proof.Machine.execSbbEbIb e imm s
  | .andEbIb e imm => Sys2Proof.Machine.execAndEbIb e imm s
  | .subEbIb e imm => Sys2Proof.Machine.execSubEbIb e imm s
  | .xorEbIb e imm => Sys2Proof.Machine.execXorEbIb e imm s
  | .cmpEbIb e imm => Sys2Proof.Machine.execCmpEbIb e imm s
  | .addEvIv e imm => Sys2Proof.Machine.execAddEvIv e imm s
  | .orEvIv e imm => Sys2Proof.Machine.execOrEvIv e imm s
  | .adcEvIv e imm => Sys2Proof.Machine.execAdcEvIv e imm s
  | .sbbEvIv e imm => Sys2Proof.Machine.execSbbEvIv e imm s
  | .andEvIv e imm => Sys2Proof.Machine.execAndEvIv e imm s
  | .subEvIv e imm => Sys2Proof.Machine.execSubEvIv e imm s
  | .xorEvIv e imm => Sys2Proof.Machine.execXorEvIv e imm s
  | .cmpEvIv e imm => Sys2Proof.Machine.execCmpEvIv e imm s
  | .addEbIb82 e imm => Sys2Proof.Machine.execAddEbIb82 e imm s
  | .orEbIb82 e imm => Sys2Proof.Machine.execOrEbIb82 e imm s
  | .adcEbIb82 e imm => Sys2Proof.Machine.execAdcEbIb82 e imm s
  | .sbbEbIb82 e imm => Sys2Proof.Machine.execSbbEbIb82 e imm s
  | .andEbIb82 e imm => Sys2Proof.Machine.execAndEbIb82 e imm s
  | .subEbIb82 e imm => Sys2Proof.Machine.execSubEbIb82 e imm s
  | .xorEbIb82 e imm => Sys2Proof.Machine.execXorEbIb82 e imm s
  | .cmpEbIb82 e imm => Sys2Proof.Machine.execCmpEbIb82 e imm s
  | .addEvIbSx e imm => Sys2Proof.Machine.execAddEvIbSx e imm s
  | .orEvIbSx e imm => Sys2Proof.Machine.execOrEvIbSx e imm s
  | .adcEvIbSx e imm => Sys2Proof.Machine.execAdcEvIbSx e imm s
  | .sbbEvIbSx e imm => Sys2Proof.Machine.execSbbEvIbSx e imm s
  | .andEvIbSx e imm => Sys2Proof.Machine.execAndEvIbSx e imm s
  | .subEvIbSx e imm => Sys2Proof.Machine.execSubEvIbSx e imm s
  | .xorEvIbSx e imm => Sys2Proof.Machine.execXorEvIbSx e imm s
  | .cmpEvIbSx e imm => Sys2Proof.Machine.execCmpEvIbSx e imm s
  | .testEbGb e g => Sys2Proof.Machine.execTestEbGb e g s
  | .testEvGv e g => Sys2Proof.Machine.execTestEvGv e g s
  | .xchgEbGb e g => Sys2Proof.Machine.execXchgEbGb e g s
  | .xchgEvGv e g => Sys2Proof.Machine.execXchgEvGv e g s
  | .movEbGb e g => Sys2Proof.Machine.execMovEbGb e g s
  | .movEvGv e g => Sys2Proof.Machine.execMovEvGv e g s
  | .movGbEb g e => Sys2Proof.Machine.execMovGbEb g e s
  | .movGvEv g e => Sys2Proof.Machine.execMovGvEv g e s
  | .movEwSreg e sr => Sys2Proof.Machine.execMovEwSreg e sr s
  | .movEwSregBad x e => Sys2Proof.Machine.execMovEwSregBad x e s
  | .leaGvM g e => Sys2Proof.Machine.execLeaGvM g e s
  | .movSregEw sr e => Sys2Proof.Machine.execMovSregEw sr e s
  | .movSregEwBad x e => Sys2Proof.Machine.execMovSregEwBad x e s
  | .popEv e => Sys2Proof.Machine.execPopEv e s
  | .refused8F1 e imm => Sys2Proof.Machine.execRefused8F1 e imm s
  | .refused8F2 e imm => Sys2Proof.Machine.execRefused8F2 e imm s
  | .refused8F3 e imm => Sys2Proof.Machine.execRefused8F3 e imm s
  | .refused8F4 e imm => Sys2Proof.Machine.execRefused8F4 e imm s
  | .refused8F5 e imm => Sys2Proof.Machine.execRefused8F5 e imm s
  | .refused8F6 e imm => Sys2Proof.Machine.execRefused8F6 e imm s
  | .refused8F7 e imm => Sys2Proof.Machine.execRefused8F7 e imm s
  | .nop => Sys2Proof.Machine.execNop s
  | .xchgAxCx => Sys2Proof.Machine.execXchgAxCx s
  | .xchgAxDx => Sys2Proof.Machine.execXchgAxDx s
  | .xchgAxBx => Sys2Proof.Machine.execXchgAxBx s
  | .xchgAxSp => Sys2Proof.Machine.execXchgAxSp s
  | .xchgAxBp => Sys2Proof.Machine.execXchgAxBp s
  | .xchgAxSi => Sys2Proof.Machine.execXchgAxSi s
  | .xchgAxDi => Sys2Proof.Machine.execXchgAxDi s
  | .cbw => Sys2Proof.Machine.execCbw s
  | .cwd => Sys2Proof.Machine.execCwd s
  | .callAp off sg => Sys2Proof.Machine.execCallAp off sg s
  | .wait => Sys2Proof.Machine.execWait s
  | .pushf => Sys2Proof.Machine.execPushf s
  | .popf => Sys2Proof.Machine.execPopf s
  | .sahf => Sys2Proof.Machine.execSahf s
  | .lahf => Sys2Proof.Machine.execLahf s
  | .movAlOb off => Sys2Proof.Machine.execMovAlOb off s
  | .movAxOv off => Sys2Proof.Machine.execMovAxOv off s
  | .movObAl off => Sys2Proof.Machine.execMovObAl off s
  | .movOvAx off => Sys2Proof.Machine.execMovOvAx off s
  | .movsb => Sys2Proof.Machine.execMovsb s
  | .movsw => Sys2Proof.Machine.execMovsw s
  | .cmpsb => Sys2Proof.Machine.execCmpsb s
  | .cmpsw => Sys2Proof.Machine.execCmpsw s
  | .stosb => Sys2Proof.Machine.execStosb s
  | .stosw => Sys2Proof.Machine.execStosw s
  | .lodsb => Sys2Proof.Machine.execLodsb s
  | .lodsw => Sys2Proof.Machine.execLodsw s
  | .scasb => Sys2Proof.Machine.execScasb s
  | .scasw => Sys2Proof.Machine.execScasw s
  | .testAlIb imm => Sys2Proof.Machine.execTestAlIb imm s
  | .testAxIv imm => Sys2Proof.Machine.execTestAxIv imm s
  | .movR8Ib r imm => Sys2Proof.Machine.execMovR8Ib r imm s
  | .movR16Iv r imm => Sys2Proof.Machine.execMovR16Iv r imm s
  | .retIwC0 imm => Sys2Proof.Machine.execRetIwC0 imm s
  | .retC1 => Sys2Proof.Machine.execRetC1 s
  | .retIw imm => Sys2Proof.Machine.execRetIw imm s
  | .ret => Sys2Proof.Machine.execRet s
  | .lesGvMp g e => Sys2Proof.Machine.execLesGvMp g e s
  | .ldsGvMp g e => Sys2Proof.Machine.execLdsGvMp g e s
  | .movEbIb e imm => Sys2Proof.Machine.execMovEbIb e imm s
  | .movEvIv e imm => Sys2Proof.Machine.execMovEvIv e imm s
  | .refusedC61 e imm => Sys2Proof.Machine.execRefusedC61 e imm s
  | .refusedC62 e imm => Sys2Proof.Machine.execRefusedC62 e imm s
  | .refusedC63 e imm => Sys2Proof.Machine.execRefusedC63 e imm s
  | .refusedC64 e imm => Sys2Proof.Machine.execRefusedC64 e imm s
  | .refusedC65 e imm => Sys2Proof.Machine.execRefusedC65 e imm s
  | .refusedC66 e imm => Sys2Proof.Machine.execRefusedC66 e imm s
  | .refusedC67 e imm => Sys2Proof.Machine.execRefusedC67 e imm s
  | .refusedC71 e imm => Sys2Proof.Machine.execRefusedC71 e imm s
  | .refusedC72 e imm => Sys2Proof.Machine.execRefusedC72 e imm s
  | .refusedC73 e imm => Sys2Proof.Machine.execRefusedC73 e imm s
  | .refusedC74 e imm => Sys2Proof.Machine.execRefusedC74 e imm s
  | .refusedC75 e imm => Sys2Proof.Machine.execRefusedC75 e imm s
  | .refusedC76 e imm => Sys2Proof.Machine.execRefusedC76 e imm s
  | .refusedC77 e imm => Sys2Proof.Machine.execRefusedC77 e imm s
  | .retfIwC8 imm => Sys2Proof.Machine.execRetfIwC8 imm s
  | .retfC9 => Sys2Proof.Machine.execRetfC9 s
  | .retfIw imm => Sys2Proof.Machine.execRetfIw imm s
  | .retf => Sys2Proof.Machine.execRetf s
  | .int3 => Sys2Proof.Machine.execInt3 s
  | .intIb imm => Sys2Proof.Machine.execIntIb imm s
  | .into => Sys2Proof.Machine.execInto s
  | .iret => Sys2Proof.Machine.execIret s
  | .rolEb1 e => Sys2Proof.Machine.execRolEb1 e s
  | .rorEb1 e => Sys2Proof.Machine.execRorEb1 e s
  | .rclEb1 e => Sys2Proof.Machine.execRclEb1 e s
  | .rcrEb1 e => Sys2Proof.Machine.execRcrEb1 e s
  | .shlEb1 e => Sys2Proof.Machine.execShlEb1 e s
  | .shrEb1 e => Sys2Proof.Machine.execShrEb1 e s
  | .refusedD06 e imm => Sys2Proof.Machine.execRefusedD06 e imm s
  | .sarEb1 e => Sys2Proof.Machine.execSarEb1 e s
  | .rolEv1 e => Sys2Proof.Machine.execRolEv1 e s
  | .rorEv1 e => Sys2Proof.Machine.execRorEv1 e s
  | .rclEv1 e => Sys2Proof.Machine.execRclEv1 e s
  | .rcrEv1 e => Sys2Proof.Machine.execRcrEv1 e s
  | .shlEv1 e => Sys2Proof.Machine.execShlEv1 e s
  | .shrEv1 e => Sys2Proof.Machine.execShrEv1 e s
  | .refusedD16 e imm => Sys2Proof.Machine.execRefusedD16 e imm s
  | .sarEv1 e => Sys2Proof.Machine.execSarEv1 e s
  | .rolEbCl e => Sys2Proof.Machine.execRolEbCl e s
  | .rorEbCl e => Sys2Proof.Machine.execRorEbCl e s
  | .rclEbCl e => Sys2Proof.Machine.execRclEbCl e s
  | .rcrEbCl e => Sys2Proof.Machine.execRcrEbCl e s
  | .shlEbCl e => Sys2Proof.Machine.execShlEbCl e s
  | .shrEbCl e => Sys2Proof.Machine.execShrEbCl e s
  | .refusedD26 e imm => Sys2Proof.Machine.execRefusedD26 e imm s
  | .sarEbCl e => Sys2Proof.Machine.execSarEbCl e s
  | .rolEvCl e => Sys2Proof.Machine.execRolEvCl e s
  | .rorEvCl e => Sys2Proof.Machine.execRorEvCl e s
  | .rclEvCl e => Sys2Proof.Machine.execRclEvCl e s
  | .rcrEvCl e => Sys2Proof.Machine.execRcrEvCl e s
  | .shlEvCl e => Sys2Proof.Machine.execShlEvCl e s
  | .shrEvCl e => Sys2Proof.Machine.execShrEvCl e s
  | .refusedD36 e imm => Sys2Proof.Machine.execRefusedD36 e imm s
  | .sarEvCl e => Sys2Proof.Machine.execSarEvCl e s
  | .aamIb imm => Sys2Proof.Machine.execAamIb imm s
  | .aadIb imm => Sys2Proof.Machine.execAadIb imm s
  | .salc => Sys2Proof.Machine.execSalc s
  | .xlat => Sys2Proof.Machine.execXlat s
  | .esc x y e => Sys2Proof.Machine.execEsc x y e s
  | .loopnzRel8 rel => Sys2Proof.Machine.execLoopnzRel8 rel s
  | .loopzRel8 rel => Sys2Proof.Machine.execLoopzRel8 rel s
  | .loopRel8 rel => Sys2Proof.Machine.execLoopRel8 rel s
  | .jcxzRel8 rel => Sys2Proof.Machine.execJcxzRel8 rel s
  | .inAlIb imm => Sys2Proof.Machine.execInAlIb imm s
  | .inAxIb imm => Sys2Proof.Machine.execInAxIb imm s
  | .outIbAl imm => Sys2Proof.Machine.execOutIbAl imm s
  | .outIbAx imm => Sys2Proof.Machine.execOutIbAx imm s
  | .callRel16 rel => Sys2Proof.Machine.execCallRel16 rel s
  | .jmpRel16 rel => Sys2Proof.Machine.execJmpRel16 rel s
  | .jmpAp off sg => Sys2Proof.Machine.execJmpAp off sg s
  | .jmpRel8 rel => Sys2Proof.Machine.execJmpRel8 rel s
  | .inAlDx => Sys2Proof.Machine.execInAlDx s
  | .inAxDx => Sys2Proof.Machine.execInAxDx s
  | .outDxAl => Sys2Proof.Machine.execOutDxAl s
  | .outDxAx => Sys2Proof.Machine.execOutDxAx s
  | .lock => Sys2Proof.Machine.execLock s
  | .lockF1 => Sys2Proof.Machine.execLockF1 s
  | .repne => Sys2Proof.Machine.execRepne s
  | .repe => Sys2Proof.Machine.execRepe s
  | .hlt => Sys2Proof.Machine.execHlt s
  | .cmc => Sys2Proof.Machine.execCmc s
  | .testEbIb e imm => Sys2Proof.Machine.execTestEbIb e imm s
  | .testEbIbF1 e imm => Sys2Proof.Machine.execTestEbIbF1 e imm s
  | .notEb e => Sys2Proof.Machine.execNotEb e s
  | .negEb e => Sys2Proof.Machine.execNegEb e s
  | .mulEb e => Sys2Proof.Machine.execMulEb e s
  | .imulEb e => Sys2Proof.Machine.execImulEb e s
  | .divEb e => Sys2Proof.Machine.execDivEb e s
  | .idivEb e => Sys2Proof.Machine.execIdivEb e s
  | .testEvIv e imm => Sys2Proof.Machine.execTestEvIv e imm s
  | .testEvIvF1 e imm => Sys2Proof.Machine.execTestEvIvF1 e imm s
  | .notEv e => Sys2Proof.Machine.execNotEv e s
  | .negEv e => Sys2Proof.Machine.execNegEv e s
  | .mulEv e => Sys2Proof.Machine.execMulEv e s
  | .imulEv e => Sys2Proof.Machine.execImulEv e s
  | .divEv e => Sys2Proof.Machine.execDivEv e s
  | .idivEv e => Sys2Proof.Machine.execIdivEv e s
  | .clc => Sys2Proof.Machine.execClc s
  | .stc => Sys2Proof.Machine.execStc s
  | .cli => Sys2Proof.Machine.execCli s
  | .sti => Sys2Proof.Machine.execSti s
  | .cld => Sys2Proof.Machine.execCld s
  | .std => Sys2Proof.Machine.execStd s
  | .incEb e => Sys2Proof.Machine.execIncEb e s
  | .decEb e => Sys2Proof.Machine.execDecEb e s
  | .refusedFE2 e imm => Sys2Proof.Machine.execRefusedFE2 e imm s
  | .refusedFE3 e imm => Sys2Proof.Machine.execRefusedFE3 e imm s
  | .refusedFE4 e imm => Sys2Proof.Machine.execRefusedFE4 e imm s
  | .refusedFE5 e imm => Sys2Proof.Machine.execRefusedFE5 e imm s
  | .refusedFE6 e imm => Sys2Proof.Machine.execRefusedFE6 e imm s
  | .refusedFE7 e imm => Sys2Proof.Machine.execRefusedFE7 e imm s
  | .incEv e => Sys2Proof.Machine.execIncEv e s
  | .decEv e => Sys2Proof.Machine.execDecEv e s
  | .callEv e => Sys2Proof.Machine.execCallEv e s
  | .callMp e => Sys2Proof.Machine.execCallMp e s
  | .jmpEv e => Sys2Proof.Machine.execJmpEv e s
  | .jmpMp e => Sys2Proof.Machine.execJmpMp e s
  | .pushEv e => Sys2Proof.Machine.execPushEv e s
  | .refusedFF7 e imm => Sys2Proof.Machine.execRefusedFF7 e imm s
  | .unknownOpcode b => Sys2Proof.Machine.execUnknownOpcode b s

end Sys2Proof.Machine
end

