-- ==== Sys2Proof/Machine/Unit.lean ====
section
/-! DEFINITION. What `step` needs to know of an instruction: whether it is a prefix, how many prefixes
it looks at, and how bytes are placed at a code address. -/

namespace Sys2Proof.Machine

open Sys2Proof

/-- The prefix bytes (30_encoding.md R133). -/
def isPrefix : Instr → Bool
  | .segEs => true
  | .segCs => true
  | .segSs => true
  | .segDs => true
  | .lock => true
  | .lockF1 => true
  | .repne => true
  | .repe => true
  | _ => false

/-- More prefix bytes than the queue and a whole code segment hold: a run of so many never ends (log 10). -/
def prefixFuel : Nat := 65536 + 6 + 1

/-- The schedule with the bus unit idle at the next 16 fill points, more than a step of a prefix byte, an
instruction and an event has (log 6, log 14). -/
def Schedule.idle (f : Schedule) : Schedule := { f with planned := List.replicate 16 0 }

/-- Bytes stored from a code address on. -/
def storeCode (m : Memory) (sg : Word) : Word → List Byte → Memory
  | _, [] => m
  | off, b :: bs => storeCode (m.write (phys sg off).toNat b) sg (off + 1#16) bs

end Sys2Proof.Machine
end

