-- ==== Sys2Proof/Machine/Step.lean ====
section
/-! DEFINITION. One step of the core (30_encoding.md R151): a HALTED step, one iteration of a repeated
string instruction after its first, or one whole instruction; and where `withFetchWord` puts an
instruction. -/

namespace Sys2Proof.Machine

open Sys2Proof

/-- The bytes of one instruction, prefixes first (R153): each prefix is run and the next byte taken
(R134), any other instruction ends the step. `fuel` bounds the prefix bytes of one step: a longer run is
endless and goes on in the next step, with no boundary between (R563; log 10). -/
def runUnits : Nat → State → Result
  | 0, s => .next { s with prefixing := true }
  | fuel + 1, s =>
    match s.fetchInstr with
    | .error _ => .refused .undecodable
    | .ok (i, s1) =>
      match exec i s1.fill with
      | .next s2 => if isPrefix i then runUnits fuel s2 else .next s2.finish
      | .fault r => .fault r
      | .refused r => .refused r

/-- One step of the core. -/
def step (s : State) : Host.Outcome State Fault Refusal :=
  if s.halted then .next s.haltedStep
  else
    match s.repeating with
    | some x => .next (s.fill.repIteration x).finish
    | none => runUnits prefixFuel s.stepStart

/-- The instruction of a table word stored at `CS:ip`, where `step` fetches: the queue is emptied, so
that the bytes come from memory, and the bus unit is idle, so that nothing free stands before it; the core is not halted, repeating or in a run of prefix bytes; every
address is mapped (log 14). -/
def State.withFetchWord (s : State) (nbits w : Nat) : State :=
  { s with
    mem := storeCode s.mem s.segs.cs s.ip (tableWordBytes nbits w)
    queue := []
    fills := s.fills.idle
    halted := false
    repeating := none
    prefixing := false
    cfg := { s.cfg with unmapped := [] } }

end Sys2Proof.Machine
end

