-- ==== Sys2Proof/Machine/HostActions.lean ====
section
/-! DEFINITION. What the host may do between two steps (30_encoding.md R151, 70_reset_and_hazards.md
R550 to R556, R565) and what it may read (60_exceptions.md R522). `step` performs none of these (log 16). -/

namespace Sys2Proof.Machine

open Sys2Proof

namespace State

/-- `reset(hard)` (70_reset_and_hazards.md R550, 10_state.md R51) with the drawn general registers
`P_RESET_GPR`: hard and soft resets give the same state (R551); memory, the devices, the controller, the
NMI enable and the parameters keep their values (R553, R555). -/
def hostReset (s : State) (_hard : Bool) (gpr : Regs) : State :=
  { s with
    regs := gpr
    segs := { es := 0#16, cs := 0xFFFF#16, ss := 0#16, ds := 0#16 }
    ip := 0#16
    flags := ⟨false, false, false, false, false, false, false, false, false⟩
    queue := []
    ovr := none
    rep := none
    lock := false
    startIp := 0#16
    opIp := 0#16
    prefixing := false
    repeating := none
    trapPending := false
    nmiPending := false
    noint := false
    halted := false }

/-- The host requests an NMI (10_state.md R44). -/
def hostNmi (s : State) : State := { s with nmiPending := true }

/-- The platform sets or clears the NMI enable (R44). -/
def hostNmiEnable (s : State) (b : Bool) : State := { s with nmiEnable := b }

/-- The interrupt controller's state changes (10_state.md R45, 60_exceptions.md R523). -/
def hostController (s : State) (requests : List Byte) : State := { s with ctrl := requests }

/-- The host or a DMA controller changes a byte of memory (60_exceptions.md R524), after a fill point: the
bus unit may have read ahead before the change (20_memory.md R100; log 6). -/
def hostWrite (s : State) (pa : PhysAddr) (b : Byte) : State := s.fill.physWrite pa b

end State

/-- What `dump_state()` returns (60_exceptions.md R522). -/
structure Dump where
  regs  : Regs
  segs  : Segs
  ip    : Word
  flags : Word
  deriving DecidableEq, Repr

/-- `dump_state()`: read-only. -/
def State.dump (s : State) : Dump where
  regs := s.regs
  segs := s.segs
  ip := s.ip
  flags := s.flags.image

end Sys2Proof.Machine
end

