-- ==== Sys2Proof/Safety.lean ====
section
/-! DEFINITION. The invariant of the machine and what a safe run is, in the terms that the statements
use. -/

namespace Sys2Proof.Machine

/-- Memory is in its canonical form, the prefetch queue does not exceed its capacity (20_memory.md R103),
the machine is repeating only under a REP prefix (10_state.md R42), and a machine in a run of prefix bytes
is neither repeating nor halted (30_encoding.md R150). -/
structure State.Inv (s : State) : Prop where
  memory    : s.mem.wf = true
  queue     : s.queue.length ≤ queueCap s.cfg
  repeating : s.repeating.isSome = true → s.rep.isSome = true
  prefixing : s.prefixing = true → s.repeating = none ∧ s.halted = false

/-- No fault and no refusal in the next `k` steps. -/
def State.runsFor : Nat → State → Prop
  | 0, _ => True
  | k + 1, s => ∃ t, step s = .next t ∧ t.runsFor k

end Sys2Proof.Machine
end

