-- ==== Sys2Proof/WellFormed.lean ====
section
/-! DEFINITION. Well-formed instructions: those that have an encoding under the parameters. Three
checks: an operand without displacement is not `[BP]` (30_encoding.md R127: mod = 00 with rm = 110 is
the direct form); an undocumented opcode byte is an instruction only under `silicon`; an unknown opcode
is one of those bytes under `noop` (46_undocumented.md R440, R449). -/

namespace Sys2Proof

/-- `[BP]` without displacement has no encoding (R127). -/
def MemRef.ok : MemRef → Bool
  | .base b => b != .bp
  | .direct _ => true
  | .baseD8 _ _ => true
  | .baseD16 _ _ => true

/-- The check of the E operand. -/
def RM.ok {ρ : Type} : RM ρ → Bool
  | .reg _ => true
  | .mem m => m.ok

/-- The check of an instruction's operands. -/
def Instr.operandOk : Instr → Bool
  | .addEbGb e _ => e.ok
  | .addEvGv e _ => e.ok
  | .addGbEb _ e => e.ok
  | .addGvEv _ e => e.ok
  | .addAlIb _ => true
  | .addAxIv _ => true
  | .orEbGb e _ => e.ok
  | .orEvGv e _ => e.ok
  | .orGbEb _ e => e.ok
  | .orGvEv _ e => e.ok
  | .orAlIb _ => true
  | .orAxIv _ => true
  | .adcEbGb e _ => e.ok
  | .adcEvGv e _ => e.ok
  | .adcGbEb _ e => e.ok
  | .adcGvEv _ e => e.ok
  | .adcAlIb _ => true
  | .adcAxIv _ => true
  | .sbbEbGb e _ => e.ok
  | .sbbEvGv e _ => e.ok
  | .sbbGbEb _ e => e.ok
  | .sbbGvEv _ e => e.ok
  | .sbbAlIb _ => true
  | .sbbAxIv _ => true
  | .andEbGb e _ => e.ok
  | .andEvGv e _ => e.ok
  | .andGbEb _ e => e.ok
  | .andGvEv _ e => e.ok
  | .andAlIb _ => true
  | .andAxIv _ => true
  | .subEbGb e _ => e.ok
  | .subEvGv e _ => e.ok
  | .subGbEb _ e => e.ok
  | .subGvEv _ e => e.ok
  | .subAlIb _ => true
  | .subAxIv _ => true
  | .xorEbGb e _ => e.ok
  | .xorEvGv e _ => e.ok
  | .xorGbEb _ e => e.ok
  | .xorGvEv _ e => e.ok
  | .xorAlIb _ => true
  | .xorAxIv _ => true
  | .cmpEbGb e _ => e.ok
  | .cmpEvGv e _ => e.ok
  | .cmpGbEb _ e => e.ok
  | .cmpGvEv _ e => e.ok
  | .cmpAlIb _ => true
  | .cmpAxIv _ => true
  | .incR16 _ => true
  | .decR16 _ => true
  | .pushR16 _ => true
  | .popR16 _ => true
  | .jccAlias _ _ => true
  | .joRel8 _ => true
  | .jnoRel8 _ => true
  | .jbRel8 _ => true
  | .jnbRel8 _ => true
  | .jeRel8 _ => true
  | .jneRel8 _ => true
  | .jbeRel8 _ => true
  | .jaRel8 _ => true
  | .jsRel8 _ => true
  | .jnsRel8 _ => true
  | .jpRel8 _ => true
  | .jnpRel8 _ => true
  | .jlRel8 _ => true
  | .jgeRel8 _ => true
  | .jleRel8 _ => true
  | .jgRel8 _ => true
  | .addEbIb e _ => e.ok
  | .orEbIb e _ => e.ok
  | .adcEbIb e _ => e.ok
  | .sbbEbIb e _ => e.ok
  | .andEbIb e _ => e.ok
  | .subEbIb e _ => e.ok
  | .xorEbIb e _ => e.ok
  | .cmpEbIb e _ => e.ok
  | .addEvIv e _ => e.ok
  | .orEvIv e _ => e.ok
  | .adcEvIv e _ => e.ok
  | .sbbEvIv e _ => e.ok
  | .andEvIv e _ => e.ok
  | .subEvIv e _ => e.ok
  | .xorEvIv e _ => e.ok
  | .cmpEvIv e _ => e.ok
  | .addEbIb82 e _ => e.ok
  | .orEbIb82 e _ => e.ok
  | .adcEbIb82 e _ => e.ok
  | .sbbEbIb82 e _ => e.ok
  | .andEbIb82 e _ => e.ok
  | .subEbIb82 e _ => e.ok
  | .xorEbIb82 e _ => e.ok
  | .cmpEbIb82 e _ => e.ok
  | .addEvIbSx e _ => e.ok
  | .orEvIbSx e _ => e.ok
  | .adcEvIbSx e _ => e.ok
  | .sbbEvIbSx e _ => e.ok
  | .andEvIbSx e _ => e.ok
  | .subEvIbSx e _ => e.ok
  | .xorEvIbSx e _ => e.ok
  | .cmpEvIbSx e _ => e.ok
  | .testEbGb e _ => e.ok
  | .testEvGv e _ => e.ok
  | .xchgEbGb e _ => e.ok
  | .xchgEvGv e _ => e.ok
  | .movEbGb e _ => e.ok
  | .movEvGv e _ => e.ok
  | .movGbEb _ e => e.ok
  | .movGvEv _ e => e.ok
  | .movEwSreg e _ => e.ok
  | .movEwSregBad _ e => e.ok
  | .leaGvM _ e => e.ok
  | .movSregEw _ e => e.ok
  | .movSregEwBad _ e => e.ok
  | .popEv e => e.ok
  | .refused8F1 e _ => e.ok
  | .refused8F2 e _ => e.ok
  | .refused8F3 e _ => e.ok
  | .refused8F4 e _ => e.ok
  | .refused8F5 e _ => e.ok
  | .refused8F6 e _ => e.ok
  | .refused8F7 e _ => e.ok
  | .callAp _ _ => true
  | .movAlOb _ => true
  | .movAxOv _ => true
  | .movObAl _ => true
  | .movOvAx _ => true
  | .testAlIb _ => true
  | .testAxIv _ => true
  | .movR8Ib _ _ => true
  | .movR16Iv _ _ => true
  | .retIwC0 _ => true
  | .retIw _ => true
  | .lesGvMp _ e => e.ok
  | .ldsGvMp _ e => e.ok
  | .movEbIb e _ => e.ok
  | .movEvIv e _ => e.ok
  | .refusedC61 e _ => e.ok
  | .refusedC62 e _ => e.ok
  | .refusedC63 e _ => e.ok
  | .refusedC64 e _ => e.ok
  | .refusedC65 e _ => e.ok
  | .refusedC66 e _ => e.ok
  | .refusedC67 e _ => e.ok
  | .refusedC71 e _ => e.ok
  | .refusedC72 e _ => e.ok
  | .refusedC73 e _ => e.ok
  | .refusedC74 e _ => e.ok
  | .refusedC75 e _ => e.ok
  | .refusedC76 e _ => e.ok
  | .refusedC77 e _ => e.ok
  | .retfIwC8 _ => true
  | .retfIw _ => true
  | .intIb _ => true
  | .rolEb1 e => e.ok
  | .rorEb1 e => e.ok
  | .rclEb1 e => e.ok
  | .rcrEb1 e => e.ok
  | .shlEb1 e => e.ok
  | .shrEb1 e => e.ok
  | .refusedD06 e _ => e.ok
  | .sarEb1 e => e.ok
  | .rolEv1 e => e.ok
  | .rorEv1 e => e.ok
  | .rclEv1 e => e.ok
  | .rcrEv1 e => e.ok
  | .shlEv1 e => e.ok
  | .shrEv1 e => e.ok
  | .refusedD16 e _ => e.ok
  | .sarEv1 e => e.ok
  | .rolEbCl e => e.ok
  | .rorEbCl e => e.ok
  | .rclEbCl e => e.ok
  | .rcrEbCl e => e.ok
  | .shlEbCl e => e.ok
  | .shrEbCl e => e.ok
  | .refusedD26 e _ => e.ok
  | .sarEbCl e => e.ok
  | .rolEvCl e => e.ok
  | .rorEvCl e => e.ok
  | .rclEvCl e => e.ok
  | .rcrEvCl e => e.ok
  | .shlEvCl e => e.ok
  | .shrEvCl e => e.ok
  | .refusedD36 e _ => e.ok
  | .sarEvCl e => e.ok
  | .aamIb _ => true
  | .aadIb _ => true
  | .esc _ _ e => e.ok
  | .loopnzRel8 _ => true
  | .loopzRel8 _ => true
  | .loopRel8 _ => true
  | .jcxzRel8 _ => true
  | .inAlIb _ => true
  | .inAxIb _ => true
  | .outIbAl _ => true
  | .outIbAx _ => true
  | .callRel16 _ => true
  | .jmpRel16 _ => true
  | .jmpAp _ _ => true
  | .jmpRel8 _ => true
  | .testEbIb e _ => e.ok
  | .testEbIbF1 e _ => e.ok
  | .notEb e => e.ok
  | .negEb e => e.ok
  | .mulEb e => e.ok
  | .imulEb e => e.ok
  | .divEb e => e.ok
  | .idivEb e => e.ok
  | .testEvIv e _ => e.ok
  | .testEvIvF1 e _ => e.ok
  | .notEv e => e.ok
  | .negEv e => e.ok
  | .mulEv e => e.ok
  | .imulEv e => e.ok
  | .divEv e => e.ok
  | .idivEv e => e.ok
  | .incEb e => e.ok
  | .decEb e => e.ok
  | .refusedFE2 e _ => e.ok
  | .refusedFE3 e _ => e.ok
  | .refusedFE4 e _ => e.ok
  | .refusedFE5 e _ => e.ok
  | .refusedFE6 e _ => e.ok
  | .refusedFE7 e _ => e.ok
  | .incEv e => e.ok
  | .decEv e => e.ok
  | .callEv e => e.ok
  | .callMp e => e.ok
  | .jmpEv e => e.ok
  | .jmpMp e => e.ok
  | .pushEv e => e.ok
  | .refusedFF7 e _ => e.ok
  | .unknownOpcode _ => true
  | .pushEs => true
  | .pushCs => true
  | .pushSs => true
  | .pushDs => true
  | .popEs => true
  | .popSs => true
  | .popDs => true
  | .popCs => true
  | .segEs => true
  | .segCs => true
  | .segSs => true
  | .segDs => true
  | .daa => true
  | .das => true
  | .aaa => true
  | .aas => true
  | .nop => true
  | .xchgAxCx => true
  | .xchgAxDx => true
  | .xchgAxBx => true
  | .xchgAxSp => true
  | .xchgAxBp => true
  | .xchgAxSi => true
  | .xchgAxDi => true
  | .cbw => true
  | .cwd => true
  | .wait => true
  | .pushf => true
  | .popf => true
  | .sahf => true
  | .lahf => true
  | .movsb => true
  | .movsw => true
  | .cmpsb => true
  | .cmpsw => true
  | .stosb => true
  | .stosw => true
  | .lodsb => true
  | .lodsw => true
  | .scasb => true
  | .scasw => true
  | .retC1 => true
  | .ret => true
  | .retfC9 => true
  | .retf => true
  | .int3 => true
  | .into => true
  | .iret => true
  | .salc => true
  | .xlat => true
  | .inAlDx => true
  | .inAxDx => true
  | .outDxAl => true
  | .outDxAx => true
  | .lock => true
  | .lockF1 => true
  | .repne => true
  | .repe => true
  | .hlt => true
  | .cmc => true
  | .clc => true
  | .stc => true
  | .cli => true
  | .sti => true
  | .cld => true
  | .std => true

/-- The first byte of an instruction's encoding: its opcode byte. -/
def Instr.opByte (i : Instr) : Byte := (encode i).headD 0#8

/-- The check of the opcode byte against the known set (R440): an unknown opcode stands for a byte
outside it, every other instruction for a byte inside it. -/
def Instr.opcodeOk (cfg : Config) : Instr → Bool
  | .unknownOpcode b => cfg.undoc == .noop && undocByte b
  | i => !(cfg.undoc == .noop && undocByte i.opByte)

/-- An instruction that has an encoding under the parameters. -/
def Instr.wf (cfg : Config) (i : Instr) : Bool := i.operandOk && i.opcodeOk cfg

end Sys2Proof
end

