-- ==== Sys2Proof/Certificates/Slice0/Obligations.lean ====
section
/-! DEFINITION. The statements for the provers, and the vocabulary they share. The vocabulary speaks of
results as integers and of memory through the read of one byte, so that a statement does not repeat a
definition of the model. -/

namespace Sys2Proof.Claims

open Sys2Proof Sys2Proof.Machine

/-! ## What may differ, and what is stored -/

/-- Nothing but the general registers, the flags, memory, the queue, the bus unit's schedule and the
counter of free values differs. -/
def OnlyData (s t : State) : Prop :=
  t = { s with
    regs := t.regs, flags := t.flags, mem := t.mem, queue := t.queue, fills := t.fills, draws := t.draws }

/-- Nothing is stored: every byte reads as before, the queue and the schedule are as before. -/
def NoStore (s t : State) : Prop :=
  (∀ pa, t.physRead pa = s.physRead pa) ∧ t.queue = s.queue ∧ t.fills = s.fills

/-- `P_QUEUE_CAP` (00_scope.md R11). -/
def capacity (cfg : Config) : Nat := if cfg.busWidth = .bus8 then 4 else 6

/-- The physical address from which the bus unit reads the `k`-th byte after those in the queue (20_memory.md
R100). -/
def prefetchAddr (s : State) (k : Nat) : PhysAddr :=
  phys s.segs.cs (s.ip + BitVec.ofNat 16 (s.queue.length + k))

/-- A fill point (20_memory.md R100): as many bytes as the schedule's next entry says, but none above the
capacity, are appended, each read at its prefetch address; nothing else changes. The entry is a free value
unless planned; the schedule is the model's (log 6). -/
def Filled (s t : State) : Prop :=
  ∃ q, t = { s with queue := s.queue ++ q, fills := s.fills.tail } ∧
    q.length = min s.fills.head (capacity s.cfg - s.queue.length) ∧
    ∀ k b, q[k]? = some b → b = s.physRead (prefetchAddr s k)

/-- The queue keeps the bytes it holds while at most one byte or word is stored; a byte that the bus unit
appends, within the capacity, is that of memory at its prefetch address before or after the store (20_memory.md
R100, R104). -/
def QueueKept (s t : State) : Prop :=
  ∃ q, t.queue = s.queue ++ q ∧ t.queue.length ≤ max s.queue.length (capacity s.cfg) ∧
    ∀ k b, q[k]? = some b → b = s.physRead (prefetchAddr s k) ∨ b = t.physRead (prefetchAddr s k)

/-- The byte that a list of words, each at its offset of a segment, puts at a physical address. -/
def storedByte (sg : Word) (pa : PhysAddr) : List (Word × Word) → Option Byte
  | [] => none
  | (off, v) :: ws =>
    if pa = phys sg off then some (v.setWidth 8)
    else if pa = phys sg (off + 1#16) then some ((v >>> 8).setWidth 8)
    else storedByte sg pa ws

/-- Exactly the given words are stored, at their offsets of a segment: every other byte reads as before,
and so does a byte that the memory collaborator does not map. -/
def StoresWords (s t : State) (sg : Word) (ws : List (Word × Word)) : Prop :=
  (∀ pa, t.physRead pa =
    if isUnmapped s.cfg pa.toNat then s.physRead pa else (storedByte sg pa ws).getD (s.physRead pa)) ∧
  (∃ n, t.fills = Nat.iterate Schedule.tail n s.fills)

/-- Exactly one byte is stored. -/
def StoresByte (s t : State) (sg off : Word) (v : Byte) : Prop :=
  (∀ pa, t.physRead pa =
    if pa = phys sg off ∧ isUnmapped s.cfg pa.toNat = false then v else s.physRead pa) ∧
  (∃ n, t.fills = Nat.iterate Schedule.tail n s.fills)

/-- One word register is written, the others are as before. -/
def WritesReg (s t : State) (r : Reg) (v : Word) : Prop :=
  t.regs.get r = v ∧ ∀ r', r' ≠ r → t.regs.get r' = s.regs.get r'

/-- The word registers outside a list are as before. -/
def KeepsRegsBut (rs : List Reg) (s t : State) : Prop := ∀ r, r ∉ rs → t.regs.get r = s.regs.get r

/-- One byte register is written; the other byte registers, SP, BP, SI and DI are as before. -/
def WritesReg8 (s t : State) (r : Reg8) (v : Byte) : Prop :=
  t.regs.get8 r = v ∧ (∀ r', r' ≠ r → t.regs.get8 r' = s.regs.get8 r') ∧
    KeepsRegsBut [.ax, .cx, .dx, .bx] s t

/-- A byte is put at the place of an operand, and nothing else is written. -/
def PutsByte (s t : State) (v : Byte) : Loc Reg8 → Prop
  | .reg r => WritesReg8 s t r v ∧ NoStore s t
  | .mem sg off => t.regs = s.regs ∧ StoresByte s t sg off v ∧ QueueKept s t

/-- A word is put at the place of an operand, and nothing else is written. -/
def PutsWord (s t : State) (v : Word) : Loc Reg → Prop
  | .reg r => WritesReg s t r v ∧ NoStore s t
  | .mem sg off => t.regs = s.regs ∧ StoresWords s t sg [(off, v)] ∧ QueueKept s t

/-- TF, IF and DF are as before. -/
def SystemFlagsKept (f g : Flags) : Prop := g.TF = f.TF ∧ g.IF = f.IF ∧ g.DF = f.DF

/-! ## Flag rules -/

/-- An even number of 1 bits in the low byte. -/
def evenOnes {n : Nat} (r : BitVec n) : Bool := (List.range 8).countP (fun i => r.getLsbD i) % 2 == 0

/-- ZF, SF and PF from a result (41_arithmetic.md R250). -/
def ResultFlags {n : Nat} (r : BitVec n) (f : Flags) : Prop :=
  f.ZF = decide (r.toNat = 0) ∧ f.SF = decide (2 ^ (n - 1) ≤ r.toNat) ∧ f.PF = evenOnes r

/-- The result, CF, OF, ZF, SF and PF of `AddFlags_N` (R251). -/
def AddHolds {n : Nat} (a b : BitVec n) (c : Bool) (r : BitVec n) (f : Flags) : Prop :=
  r.toNat = (a.toNat + b.toNat + c.toNat) % 2 ^ n ∧
  f.CF = decide (2 ^ n ≤ a.toNat + b.toNat + c.toNat) ∧
  f.OF = ((a ^^^ r) &&& (b ^^^ r)).msb ∧ ResultFlags r f

/-- The result, CF, OF, ZF, SF and PF of `SubFlags_N` (R252). -/
def SubHolds {n : Nat} (a b : BitVec n) (c : Bool) (r : BitVec n) (f : Flags) : Prop :=
  (r.toNat : Int) = ((a.toNat : Int) - b.toNat - c.toNat) % 2 ^ n ∧
  f.CF = decide (a.toNat < b.toNat + c.toNat) ∧
  f.OF = ((a ^^^ b) &&& (a ^^^ r)).msb ∧ ResultFlags r f

/-- AF of R251 and R252. -/
def auxiliary {n : Nat} (a b r : BitVec n) : Bool := (a ^^^ b ^^^ r).getLsbD 4

/-- AF of ADC and SBB: `P_ADC_QUIRK_AF` in the quirk's case (R253), where `draw` constrains nothing. -/
def QuirkAf {n : Nat} (s : State) (a b r : BitVec n) (f : Flags) : Prop :=
  if b = BitVec.allOnes n ∧ s.flags.CF = true then ∀ v, s.cfg.adcQuirkAf = some v → f.AF = v
  else f.AF = auxiliary a b r

/-- The flags of `LogicFlags_N` (42_logic.md R300); AF is not constrained. -/
def LogicHolds {n : Nat} (r : BitVec n) (f : Flags) : Prop :=
  f.CF = false ∧ f.OF = false ∧ ResultFlags r f

/-- The result `r` and the flags `f` of a two-operand operation (R255, R256, R260 to R262, R302 to
R304). -/
def AluHolds {n : Nat} (op : AluOp) (s : State) (a b r : BitVec n) (f : Flags) : Prop :=
  match op with
  | .add => AddHolds a b false r f ∧ f.AF = auxiliary a b r
  | .adc => AddHolds a b s.flags.CF r f ∧ QuirkAf s a b r f
  | .sub => SubHolds a b false r f ∧ f.AF = auxiliary a b r
  | .sbb => SubHolds a b s.flags.CF r f ∧ QuirkAf s a b r f
  | .cmp => SubHolds a b false r f ∧ f.AF = auxiliary a b r
  | .and => r = a &&& b ∧ LogicHolds r f
  | .or => r = a ||| b ∧ LogicHolds r f
  | .xor => r = a ^^^ b ∧ LogicHolds r f

/-- A two-operand operation on byte operands is done: destination `e`, source value `b`; CMP writes no
destination (R254, R262). -/
def AluByteDone (op : AluOp) (s : State) (e : RM Reg8) (b : Byte) (out : Result) : Prop :=
  ∃ t r, out = .next t ∧ OnlyData s t ∧ SystemFlagsKept s.flags t.flags ∧
    AluHolds op s (s.rdE8 e) b r t.flags ∧
    (if op = .cmp then t.regs = s.regs ∧ NoStore s t else PutsByte s t r (s.locate e))

/-- The same with word operands. -/
def AluWordDone (op : AluOp) (s : State) (e : RM Reg) (b : Word) (out : Result) : Prop :=
  ∃ t r, out = .next t ∧ OnlyData s t ∧ SystemFlagsKept s.flags t.flags ∧
    AluHolds op s (s.rdE16 e) b r t.flags ∧
    (if op = .cmp then t.regs = s.regs ∧ NoStore s t else PutsWord s t r (s.locate e))

/-! ## The constructors of the two-operand forms (R254) -/

/-- 8·ooo + 0. -/
def aluEbGb : AluOp → RM Reg8 → Reg8 → Instr
  | .add => .addEbGb | .or => .orEbGb | .adc => .adcEbGb | .sbb => .sbbEbGb
  | .and => .andEbGb | .sub => .subEbGb | .xor => .xorEbGb | .cmp => .cmpEbGb

/-- 8·ooo + 1. -/
def aluEvGv : AluOp → RM Reg → Reg → Instr
  | .add => .addEvGv | .or => .orEvGv | .adc => .adcEvGv | .sbb => .sbbEvGv
  | .and => .andEvGv | .sub => .subEvGv | .xor => .xorEvGv | .cmp => .cmpEvGv

/-- 8·ooo + 2. -/
def aluGbEb : AluOp → Reg8 → RM Reg8 → Instr
  | .add => .addGbEb | .or => .orGbEb | .adc => .adcGbEb | .sbb => .sbbGbEb
  | .and => .andGbEb | .sub => .subGbEb | .xor => .xorGbEb | .cmp => .cmpGbEb

/-- 8·ooo + 3. -/
def aluGvEv : AluOp → Reg → RM Reg → Instr
  | .add => .addGvEv | .or => .orGvEv | .adc => .adcGvEv | .sbb => .sbbGvEv
  | .and => .andGvEv | .sub => .subGvEv | .xor => .xorGvEv | .cmp => .cmpGvEv

/-- 8·ooo + 4. -/
def aluAlIb : AluOp → Byte → Instr
  | .add => .addAlIb | .or => .orAlIb | .adc => .adcAlIb | .sbb => .sbbAlIb
  | .and => .andAlIb | .sub => .subAlIb | .xor => .xorAlIb | .cmp => .cmpAlIb

/-- 8·ooo + 5. -/
def aluAxIv : AluOp → Word → Instr
  | .add => .addAxIv | .or => .orAxIv | .adc => .adcAxIv | .sbb => .sbbAxIv
  | .and => .andAxIv | .sub => .subAxIv | .xor => .xorAxIv | .cmp => .cmpAxIv

/-- 80 /ooo. -/
def aluEbIb : AluOp → RM Reg8 → Byte → Instr
  | .add => .addEbIb | .or => .orEbIb | .adc => .adcEbIb | .sbb => .sbbEbIb
  | .and => .andEbIb | .sub => .subEbIb | .xor => .xorEbIb | .cmp => .cmpEbIb

/-- 81 /ooo. -/
def aluEvIv : AluOp → RM Reg → Word → Instr
  | .add => .addEvIv | .or => .orEvIv | .adc => .adcEvIv | .sbb => .sbbEvIv
  | .and => .andEvIv | .sub => .subEvIv | .xor => .xorEvIv | .cmp => .cmpEvIv

/-- 82 /ooo (46_undocumented.md R447). -/
def aluEbIb82 : AluOp → RM Reg8 → Byte → Instr
  | .add => .addEbIb82 | .or => .orEbIb82 | .adc => .adcEbIb82 | .sbb => .sbbEbIb82
  | .and => .andEbIb82 | .sub => .subEbIb82 | .xor => .xorEbIb82 | .cmp => .cmpEbIb82

/-- 83 /ooo. -/
def aluEvIbSx : AluOp → RM Reg → Byte → Instr
  | .add => .addEvIbSx | .or => .orEvIbSx | .adc => .adcEvIbSx | .sbb => .sbbEvIbSx
  | .and => .andEvIbSx | .sub => .subEvIbSx | .xor => .xorEvIbSx | .cmp => .cmpEvIbSx

/-! ## The constructors and the closed forms of the shifts (42_logic.md R306 to R313) -/

/-- D0 /n. -/
def shiftEb1 : ShiftOp → RM Reg8 → Instr
  | .rol => .rolEb1 | .ror => .rorEb1 | .rcl => .rclEb1 | .rcr => .rcrEb1
  | .shl => .shlEb1 | .shr => .shrEb1 | .sar => .sarEb1

/-- D1 /n. -/
def shiftEv1 : ShiftOp → RM Reg → Instr
  | .rol => .rolEv1 | .ror => .rorEv1 | .rcl => .rclEv1 | .rcr => .rcrEv1
  | .shl => .shlEv1 | .shr => .shrEv1 | .sar => .sarEv1

/-- D2 /n. -/
def shiftEbCl : ShiftOp → RM Reg8 → Instr
  | .rol => .rolEbCl | .ror => .rorEbCl | .rcl => .rclEbCl | .rcr => .rcrEbCl
  | .shl => .shlEbCl | .shr => .shrEbCl | .sar => .sarEbCl

/-- D3 /n. -/
def shiftEvCl : ShiftOp → RM Reg → Instr
  | .rol => .rolEvCl | .ror => .rorEvCl | .rcl => .rclEvCl | .rcr => .rcrEvCl
  | .shl => .shlEvCl | .shr => .shrEvCl | .sar => .sarEvCl

/-- The operand and CF after `count ≠ 0` steps, in closed form: a shift of the operand, a rotation of it,
or a rotation of the operand with CF above it. -/
def closedShift {n : Nat} (op : ShiftOp) (count : Nat) (x : BitVec n) (c : Bool) : BitVec n × Bool :=
  match op with
  | .rol => (x.rotateLeft count, (x.rotateLeft count).getLsbD 0)
  | .ror => (x.rotateRight count, (x.rotateRight count).msb)
  | .rcl => (((BitVec.ofBool c ++ x).rotateLeft count).setWidth n, ((BitVec.ofBool c ++ x).rotateLeft count).msb)
  | .rcr => (((BitVec.ofBool c ++ x).rotateRight count).setWidth n, ((BitVec.ofBool c ++ x).rotateRight count).msb)
  | .shl => (x <<< count, decide (count ≤ n) && x.getLsbD (n - count))
  | .shr => (x >>> count, x.getLsbD (count - 1))
  | .sar => (x.sshiftRight count, if count ≤ n then x.getLsbD (count - 1) else x.msb)

/-- The shifts write the result flags, the rotates do not (R306). -/
def shiftsOnly : List ShiftOp := [.shl, .shr, .sar]

/-- The flags after `count ≠ 0` steps from `x` to `p` (R306): OF is constrained for a count of 1 only, AF
of a shift not at all, and a rotate keeps SF, ZF, PF and AF. -/
def ShiftFlags {n : Nat} (op : ShiftOp) (count : Nat) (x : BitVec n) (p : BitVec n × Bool) (f g : Flags) :
    Prop :=
  g.CF = p.2 ∧
  (count = 1 → g.OF =
    match op with
    | .rol => p.1.msb ^^ p.2
    | .rcl => p.1.msb ^^ p.2
    | .shl => p.1.msb ^^ p.2
    | .ror => p.1.msb ^^ p.1.getLsbD (n - 2)
    | .rcr => p.1.msb ^^ p.1.getLsbD (n - 2)
    | .shr => x.msb
    | .sar => false) ∧
  (if op ∈ shiftsOnly then ResultFlags p.1 g
   else g.SF = f.SF ∧ g.ZF = f.ZF ∧ g.PF = f.PF ∧ g.AF = f.AF)

/-- A shift or rotate of a byte operand by a count is done; a count of 0 changes nothing. -/
def ShiftByteDone (op : ShiftOp) (s : State) (e : RM Reg8) (count : Nat) (out : Result) : Prop :=
  if count = 0 then out = .next s
  else ∃ t, out = .next t ∧ OnlyData s t ∧ SystemFlagsKept s.flags t.flags ∧
    ShiftFlags op count (s.rdE8 e) (closedShift op count (s.rdE8 e) s.flags.CF) s.flags t.flags ∧
    PutsByte s t (closedShift op count (s.rdE8 e) s.flags.CF).1 (s.locate e)

/-- The same with a word operand. -/
def ShiftWordDone (op : ShiftOp) (s : State) (e : RM Reg) (count : Nat) (out : Result) : Prop :=
  if count = 0 then out = .next s
  else ∃ t, out = .next t ∧ OnlyData s t ∧ SystemFlagsKept s.flags t.flags ∧
    ShiftFlags op count (s.rdE16 e) (closedShift op count (s.rdE16 e) s.flags.CF) s.flags t.flags ∧
    PutsWord s t (closedShift op count (s.rdE16 e) s.flags.CF).1 (s.locate e)

/-! ## Vectored transfers (60_exceptions.md R511, R512) -/

/-- The word at a physical address. -/
def wordAt (s : State) (pa : Nat) : Word :=
  s.physRead (BitVec.ofNat 20 (pa + 1)) ++ s.physRead (BitVec.ofNat 20 pa)

/-- The state `t` after `service(v, ret)` from `s` (R512 to R514): three words pushed, TF and IF cleared,
`ip` and `CS` from the vector table as it stands after the pushes, the queue empty, the halt ended. -/
def Entered (s t : State) (v : Byte) (ret : Word) : Prop :=
  t = { s with
    regs := t.regs, segs := t.segs, ip := t.ip, flags := t.flags, mem := t.mem, queue := t.queue,
    fills := t.fills, halted := t.halted } ∧
  WritesReg s t .sp (s.regs.sp - 6#16) ∧
  t.segs = { s.segs with cs := wordAt t (4 * v.toNat + 2) } ∧
  t.ip = wordAt t (4 * v.toNat) ∧
  t.flags = { s.flags with TF := false, IF := false } ∧
  StoresWords s t s.segs.ss
    [(s.regs.sp - 6#16, ret), (s.regs.sp - 4#16, s.segs.cs), (s.regs.sp - 2#16, s.flags.image)] ∧
  t.queue = [] ∧ t.halted = false

/-! ## Control transfers -/

/-- The state after a near transfer without a push: `ip` is the target and the queue is empty. -/
def jumped (s : State) (target : Word) : State := { s with ip := target, queue := [] }

/-- A transfer that pushes: the words in `ws` are stored at SS, SP is `sp`, and execution goes to
`sg:off` with an empty queue. -/
def Transferred (s t : State) (sp : Word) (ws : List (Word × Word)) (sg off : Word) : Prop :=
  t = { s with
    regs := t.regs, segs := t.segs, ip := t.ip, mem := t.mem, queue := t.queue, fills := t.fills } ∧
  WritesReg s t .sp sp ∧ t.segs = { s.segs with cs := sg } ∧ t.ip = off ∧ t.queue = [] ∧
  StoresWords s t s.segs.ss ws

/-- The word at the top of the stack, `n` bytes up. -/
def stackWord (s : State) (n : Word) : Word := s.readWord s.segs.ss (s.regs.sp + n)

/-- A conditional short jump with the given condition (44_control.md R384). -/
def Branches (s : State) (c : Bool) (rel : Byte) (out : Result) : Prop :=
  out = .next (if c then jumped s (s.ip + rel.signExtend 16) else s)

/-! ## The end of a step -/

/-- What `step` adds after EXECUTE (30_encoding.md R157): INTERRUPT-CHECK at the end of an instruction,
nothing between two iterations of a repeated string instruction. -/
def ended : Result → Result
  | .next t => .next (if t.repeating.isSome then t else t.endInstr)
  | .fault r => .fault r
  | .refused r => .refused r

/-- A run of exactly `n` prefix bytes from `s` to `u` (30_encoding.md R134). -/
inductive PrefixRun : Nat → State → State → Prop
  | none (s : State) : PrefixRun 0 s s
  | more {n : Nat} {s s1 s2 u : State} {i : Instr} (fetched : s.fetchInstr = .ok (i, s1))
      (isPfx : isPrefix i = true) (ran : exec i s1.fill = .next s2) (rest : PrefixRun n s2 u) :
      PrefixRun (n + 1) s u

/-! ## String instructions -/

/-- The constructor of a string opcode. -/
def stringInstr : StrInsn → Instr
  | ⟨.movs, .byte⟩ => .movsb | ⟨.movs, .word⟩ => .movsw
  | ⟨.cmps, .byte⟩ => .cmpsb | ⟨.cmps, .word⟩ => .cmpsw
  | ⟨.stos, .byte⟩ => .stosb | ⟨.stos, .word⟩ => .stosw
  | ⟨.lods, .byte⟩ => .lodsb | ⟨.lods, .word⟩ => .lodsw
  | ⟨.scas, .byte⟩ => .scasb | ⟨.scas, .word⟩ => .scasw

/-- The index step (43_string.md R340). -/
def indexStep (s : State) (n : Word) : Word := if s.flags.DF then 0#16 - n else n

/-- What ends a repeat after an element (43_string.md R341, R342). -/
def repEnds (x : StrInsn) (k : RepKind) (u : State) : Bool :=
  u.regs.cx == 0#16 ||
    (match x.op, k with
     | .cmps, .repe => !u.flags.ZF
     | .cmps, .repne => u.flags.ZF
     | .scas, .repe => !u.flags.ZF
     | .scas, .repne => u.flags.ZF
     | .movs, _ => false
     | .lods, _ => false
     | .stos, _ => false)

/-- The state from which one element is run by the instruction without its prefix: CX is one lower. -/
def elementStart (s : State) : State :=
  { s with regs := s.regs.set .cx (s.regs.cx - 1#16), rep := none, repeating := none }

/-- `interrupt_pending()` (R341): an event that INTERRUPT-CHECK would service. -/
def eventPending (s : State) : Bool :=
  s.trapPending || (s.nmiPending && s.nmiEnable) || (s.flags.IF && !s.ctrl.isEmpty)

/-! ## Refusals (46_undocumented.md R450) -/

/-- The rows that are refused on every path. -/
def alwaysRefused : Instr → Bool
  | .refused8F1 _ _ | .refused8F2 _ _ | .refused8F3 _ _ | .refused8F4 _ _ | .refused8F5 _ _
  | .refused8F6 _ _ | .refused8F7 _ _ => true
  | .refusedC61 _ _ | .refusedC62 _ _ | .refusedC63 _ _ | .refusedC64 _ _ | .refusedC65 _ _
  | .refusedC66 _ _ | .refusedC67 _ _ => true
  | .refusedC71 _ _ | .refusedC72 _ _ | .refusedC73 _ _ | .refusedC74 _ _ | .refusedC75 _ _
  | .refusedC76 _ _ | .refusedC77 _ _ => true
  | .refusedD06 _ _ | .refusedD16 _ _ | .refusedD26 _ _ | .refusedD36 _ _ => true
  | .refusedFE2 _ _ | .refusedFE3 _ _ | .refusedFE4 _ _ | .refusedFE5 _ _ | .refusedFE6 _ _
  | .refusedFE7 _ _ | .refusedFF7 _ _ => true
  | .movEwSregBad _ _ | .movSregEwBad _ _ => true
  | _ => false

/-- The forms of R450 that depend on the operand, the prefix or a parameter. -/
def sometimesRefused (s : State) : Instr → Bool
  | .leaGvM _ (.reg _) | .lesGvMp _ (.reg _) | .ldsGvMp _ (.reg _) => true
  | .callMp (.reg _) | .jmpMp (.reg _) => true
  | .testEbIbF1 _ _ | .testEvIvF1 _ _ => s.cfg.undoc == .noop
  | .mulEb _ | .mulEv _ | .imulEb _ | .imulEv _ => s.rep.isSome || s.cfg.cpuVariant == .compat
  | .divEb _ | .divEv _ | .idivEb _ | .idivEv _ => s.rep.isSome
  | .aadIb _ => s.cfg.cpuVariant == .compat
  | _ => false

/-! ## Who writes what -/

/-- The instructions that can take a vectored transfer as their effect (60_exceptions.md R500). -/
def canEnter : Instr → Bool
  | .intIb _ | .int3 | .into => true
  | .divEb _ | .divEv _ | .idivEb _ | .idivEv _ | .aamIb _ => true
  | _ => false

/-- The writers of CS (10_state.md R33): far transfers, interrupt entry, IRET, MOV CS and POP CS. -/
def writesCs : Instr → Bool
  | .callAp _ _ | .callMp _ | .jmpAp _ _ | .jmpMp _ => true
  | .retf | .retfIw _ | .retfC9 | .retfIwC8 _ | .iret => true
  | .movSregEw .cs _ | .popCs => true
  | i => canEnter i

/-- The opcode bytes outside the known set under `noop` (46_undocumented.md R440). -/
def undocumentedBytes : List Byte :=
  [0x0F, 0x60, 0x61, 0x62, 0x63, 0x64, 0x65, 0x66, 0x67, 0x68, 0x69, 0x6A, 0x6B, 0x6C, 0x6D, 0x6E, 0x6F,
    0x82, 0xC0, 0xC1, 0xC8, 0xC9, 0xD6, 0xF1]

end Sys2Proof.Claims

open Sys2Proof Sys2Proof.Machine Sys2Proof.Claims

/-! ## Encoding -/

/-- O1. 30_encoding.md R120 to R136: decoding the bytes of a well-formed instruction gives it back,
whatever bytes follow. -/
def Obligations.DecodeOfEncode : Prop :=
  ∀ (cfg : Config) (i : Instr) (rest : List Byte), i.wf cfg = true →
    decode cfg (encode i ++ rest) = .ok (i, rest)

/-- O2. Each byte string has one meaning: what decodes is well-formed, and the bytes taken are its
encoding. -/
def Obligations.EncodeOfDecode : Prop :=
  ∀ (cfg : Config) (bytes : List Byte) (i : Instr) (rest : List Byte),
    decode cfg bytes = .ok (i, rest) → i.wf cfg = true ∧ bytes = encode i ++ rest

/-- O3. 30_encoding.md R120, R132: an instruction without prefixes is 1 to 6 bytes long; so six bytes always
decode. -/
def Obligations.SixBytesDecode : Prop :=
  ∀ (cfg : Config) (bytes : List Byte), 6 ≤ bytes.length →
    ∃ i rest, decode cfg bytes = .ok (i, rest) ∧ rest.length < bytes.length ∧
      bytes.length ≤ rest.length + 6

/-- O4. Words written out from the opcode map (R135), the groups (R136) and the ModRM table (R124). -/
def Obligations.HandWrittenWords : Prop :=
  decode Config.standard [0x89, 0xD8] = .ok (.movEvGv (.reg .ax) .bx, []) ∧
  decode Config.standard [0x83, 0x46, 0xFE, 0x7F] = .ok (.addEvIbSx (.mem (.baseD8 .bp 0xFE)) 0x7F, []) ∧
  decode Config.standard [0xD3, 0x3E, 0x34, 0x12] = .ok (.sarEvCl (.mem (.direct 0x1234)), []) ∧
  decode Config.standard [0xF3, 0xA4] = .ok (.repe, [0xA4]) ∧
  decode Config.standard [0x9A, 0x00, 0x10, 0x00, 0x20] = .ok (.callAp 0x1000 0x2000, []) ∧
  decode Config.standard [0xFA] = .ok (.cli, []) ∧
  decode Config.standard [0xD6] = .ok (.salc, []) ∧
  decode { Config.standard with undoc := .noop } [0xD6] = .ok (.unknownOpcode 0xD6, [])

/-! ## A step runs the decoded instruction -/

/-- O5. 20_memory.md R101: `n` bytes taken by `fetch8()` are those of the queue, then those of memory at
`CS:ip` on; `ip` advances by `n` and nothing else changes but the queue. -/
def Obligations.FetchTakesQueueThenMemory : Prop :=
  ∀ (n : Nat) (s : State),
    (State.fetchBytes n s).1 = (List.range n).map (fun k =>
      s.queue.getD k (s.readByte s.segs.cs (s.ip + BitVec.ofNat 16 k))) ∧
    (State.fetchBytes n s).2 = { s with queue := s.queue.drop n, ip := s.ip + BitVec.ofNat 16 n }

/-- O6. 30_encoding.md R134, R152 to R157: after the prefix bytes, if the bytes at `CS:ip` decode to an
instruction that is no prefix, the step is `exec` of it (with the bytes taken, `opIp` at its opcode and a fill
point before it) and then the end of the instruction. A run of prefix bytes longer than the queue and the code
segment is endless and goes on in the next step (70_reset_and_hazards.md R563): the model's choice (log 10). The
fill points and the split into `exec` and `step` are the model's too (logs 6, 13, 18, 21). -/
def Obligations.StepRunsDecodedInstruction : Prop :=
  ∀ (s u : State) (n : Nat), s.halted = false → s.repeating = none →
    PrefixRun n (if s.prefixing then s else s.beginInstr) u →
    (∀ i rest, n < prefixFuel → decode u.cfg (State.fetchBytes 6 u).1 = .ok (i, rest) → isPrefix i = false →
      step s = ended (exec i
        (State.fill { (State.fetchBytes (6 - rest.length) u).2 with opIp := u.ip, prefixing := false }))) ∧
    (n = prefixFuel → step s = .next { u with prefixing := true })

/-- O7. 20_memory.md R100, 30_encoding.md R152: what a fill point does, and the start of an instruction: a fill
point, the trap latch takes TF, `startIp` takes `ip` and there is no prefix state. The spec decides the latch
in 92_eei_decisions.md D20; the schedule and the place of the fill point are the model's (log 6). -/
def Obligations.InstructionStart : Prop :=
  ∀ s : State, Filled s s.fill ∧ ∃ u, Filled s u ∧ s.beginInstr = { u with
    trapPending := s.flags.TF, startIp := s.ip, ovr := none, rep := none, lock := false }

/-- O8. 45_processor_control.md R420 to R422: what each prefix byte does. -/
def Obligations.PrefixesSetPrefixState : Prop :=
  ∀ s : State,
    exec .segEs s = .next { s with ovr := some .es } ∧
    exec .segCs s = .next { s with ovr := some .cs } ∧
    exec .segSs s = .next { s with ovr := some .ss } ∧
    exec .segDs s = .next { s with ovr := some .ds } ∧
    exec .lock s = .next { s with lock := true } ∧
    exec .lockF1 s = .next { s with lock := true } ∧
    exec .repne s = .next { s with rep := some .repne } ∧
    exec .repe s = .next { s with rep := some .repe }

/-! ## Invariants and reset -/

/-- O9. Every step keeps the invariant: memory's canonical form, the queue's capacity (20_memory.md R103),
that the machine repeats only under a REP prefix (10_state.md R42), and that it neither repeats nor is halted in
a run of prefix bytes (30_encoding.md R150). The canonical form and the run across steps are the model's own
(logs 4, 10). -/
def Obligations.StepKeepsInvariant : Prop :=
  ∀ s t : State, s.Inv → step s = .next t → t.Inv

/-- O10. The invariant holds after reset. The empty memory and the bus width are the model's choice
(logs 3, 4). -/
def Obligations.ResetHasInvariant : Prop := State.reset.Inv

/-- O11. 10_state.md R44: the core never writes the NMI enable; the parameters are fixed, and no step
sets the NMI latch. The spec decides the enable in 92_eei_decisions.md D21; the parameters in State are
the model's (log 3). -/
def Obligations.StepKeepsPlatformInputs : Prop :=
  ∀ s t : State, step s = .next t →
    t.nmiEnable = s.nmiEnable ∧ t.cfg = s.cfg ∧ (t.nmiPending = true → s.nmiPending = true)

/-- O12. 10_state.md R51: what a reset leaves, from any state, with any general registers drawn. The
spec decides the latches in 92_eei_decisions.md D5; the last clause is about the model's power-on state
(logs 1 to 4, 6 to 9, 12). -/
def Obligations.ResetValues : Prop :=
  ∀ (s : State) (hard : Bool) (gpr : Regs), ∃ t, t = s.hostReset hard gpr ∧
    t.segs = { es := 0, cs := 0xFFFF, ss := 0, ds := 0 } ∧ t.ip = 0 ∧
    t.flags.image = 0xF002 ∧ t.queue = [] ∧ t.ovr = none ∧ t.rep = none ∧ t.lock = false ∧
    t.repeating = none ∧ t.prefixing = false ∧ t.trapPending = false ∧ t.nmiPending = false ∧ t.noint = false ∧
    t.halted = false ∧ t.nmiEnable = s.nmiEnable ∧ t.regs = gpr ∧
    (∀ pa, t.physRead pa = s.physRead pa) ∧ t.ctrl = s.ctrl ∧ t.ioLog = s.ioLog ∧
    phys t.segs.cs t.ip = 0xFFFF0 ∧ State.reset.hostReset hard State.reset.regs = State.reset

/-! ## Registers, the flags image, addresses, memory and the stack -/

/-- O13. 10_state.md R31, R32: each byte register is a half of its word register; writing it changes those
8 bits and nothing else, and a write of the word is seen in both halves. -/
def Obligations.ByteAliasing : Prop :=
  ∀ (i : Reg8) (x : Reg) (high : Bool),
    (i, x, high) ∈ [(Reg8.al, Reg.ax, false), (.cl, .cx, false), (.dl, .dx, false), (.bl, .bx, false),
      (.ah, .ax, true), (.ch, .cx, true), (.dh, .dx, true), (.bh, .bx, true)] →
    ∀ (r : Regs) (v : Byte) (w : Word),
      r.get8 i = (r.get x).extractLsb' (if high then 8 else 0) 8 ∧
      (r.set8 i v).get x = (if high then (v ++ (r.get x).extractLsb' 0 8 : BitVec 16)
        else ((r.get x).extractLsb' 8 8 ++ v : BitVec 16)) ∧
      (∀ y, y ≠ x → (r.set8 i v).get y = r.get y) ∧
      (r.set8 i v).get8 i = v ∧ (∀ j, j ≠ i → (r.set8 i v).get8 j = r.get8 j) ∧
      (r.set x w).get8 i = w.extractLsb' (if high then 8 else 0) 8

/-- O14. 10_state.md R36: the fixed bits of the image, each flag at its bit, and a write of it. The
fixed bits are decided in 92_eei_decisions.md D6. -/
def Obligations.FlagsImage : Prop :=
  (∀ f : Flags, f.image = 0xF002 ||| (BitVec.ofBool f.OF).setWidth 16 <<< 11
      ||| (BitVec.ofBool f.DF).setWidth 16 <<< 10 ||| (BitVec.ofBool f.IF).setWidth 16 <<< 9
      ||| (BitVec.ofBool f.TF).setWidth 16 <<< 8 ||| (BitVec.ofBool f.SF).setWidth 16 <<< 7
      ||| (BitVec.ofBool f.ZF).setWidth 16 <<< 6 ||| (BitVec.ofBool f.AF).setWidth 16 <<< 4
      ||| (BitVec.ofBool f.PF).setWidth 16 <<< 2 ||| (BitVec.ofBool f.CF).setWidth 16) ∧
  (∀ f : Flags, Flags.ofImage f.image = f) ∧
  (∀ v : Word, (Flags.ofImage v).image = (v &&& 0x0FD5) ||| 0xF002)

/-- O15. 20_memory.md R81: the physical address is 16 times the segment value plus the offset, modulo
2^20. The wrap at 1 MiB is decided in 92_eei_decisions.md D3. -/
def Obligations.PhysicalAddress : Prop :=
  (∀ sg off : Word, (phys sg off).toNat = (16 * sg.toNat + off.toNat) % 2 ^ 20) ∧
  phys 0xFFFF 0x0010 = 0 ∧
  (∀ sg off : Word, phys sg off ≠ phys sg (off + 1))

/-- O16. 30_encoding.md R124 to R129: the offset is the sum of base, index and displacement modulo
2^16, and an override replaces the default segment. An override lasts for the whole instruction by
92_eei_decisions.md D33. -/
def Obligations.EffectiveAddress : Prop :=
  ∀ (r : Regs) (d : Byte) (w : Word),
    (effOffset r (.direct w)).toNat = w.toNat ∧
    (effOffset r (.base .bxSi)).toNat = (r.bx.toNat + r.si.toNat) % 2 ^ 16 ∧
    (effOffset r (.base .bxDi)).toNat = (r.bx.toNat + r.di.toNat) % 2 ^ 16 ∧
    (effOffset r (.base .bpSi)).toNat = (r.bp.toNat + r.si.toNat) % 2 ^ 16 ∧
    (effOffset r (.base .bpDi)).toNat = (r.bp.toNat + r.di.toNat) % 2 ^ 16 ∧
    (effOffset r (.base .si)).toNat = r.si.toNat ∧ (effOffset r (.base .di)).toNat = r.di.toNat ∧
    (effOffset r (.base .bp)).toNat = r.bp.toNat ∧ (effOffset r (.base .bx)).toNat = r.bx.toNat ∧
    (∀ b, ((effOffset r (.baseD8 b d)).toNat : Int) =
      ((effOffset r (.base b)).toNat + d.toInt) % 2 ^ 16) ∧
    (∀ b, (effOffset r (.baseD16 b w)).toNat =
      ((effOffset r (.base b)).toNat + w.toNat) % 2 ^ 16) ∧
    (∀ (s : State) (x : SReg) (m : MemRef), s.ovr = some x →
      s.locate (.mem m : RM Reg) = .mem (s.segs.get x) (effOffset s.regs m)) ∧
    (∀ (s : State) (b : BaseIndex), s.ovr = none →
      s.locate (.mem (.base b) : RM Reg) =
        .mem (if b ∈ [.bpSi, .bpDi, .bp] then s.segs.ss else s.segs.ds) (effOffset s.regs (.base b)) ∧
      s.locate (.mem (.baseD8 b d) : RM Reg) =
        .mem (if b ∈ [.bpSi, .bpDi, .bp] then s.segs.ss else s.segs.ds) (effOffset s.regs (.baseD8 b d)) ∧
      s.locate (.mem (.baseD16 b w) : RM Reg) =
        .mem (if b ∈ [.bpSi, .bpDi, .bp] then s.segs.ss else s.segs.ds) (effOffset s.regs (.baseD16 b w)) ∧
      s.locate (.mem (.direct w) : RM Reg) = .mem s.segs.ds w)

/-- O17. 20_memory.md R82 to R84, R86: a word written reads back, low byte at the lower offset, its
high byte at the next offset of the same segment; no other byte changes; where nothing is mapped the
open-bus value is read and a store is lost (60_exceptions.md R526). The byte order and the wrap are
decided in 92_eei_decisions.md D1 and D2, open bus in D28; the map is the model's (log 5). -/
def Obligations.WordAccess : Prop :=
  ∀ (s : State) (sg off v : Word), ∃ t, t = s.writeWord sg off v ∧ StoresWords s t sg [(off, v)] ∧
    (isUnmapped s.cfg (phys sg off).toNat = false →
      isUnmapped s.cfg (phys sg (off + 1)).toNat = false →
      t.readWord sg off = v ∧ t.readByte sg off = v.setWidth 8 ∧
      t.readByte sg (off + 1) = v.extractLsb' 8 8) ∧
    (∀ pa : PhysAddr, isUnmapped s.cfg pa.toNat = true →
      t.physRead pa = s.cfg.openBus ∧ s.physRead pa = s.cfg.openBus)

/-- O18. 20_memory.md R90: what a push and a pop do, and that a push and then a pop give back the word
and SP, for every SS and SP, on mapped memory. A store to an unmapped address is lost by
92_eei_decisions.md D28; which addresses are mapped is the model's (log 5). -/
def Obligations.PushThenPop : Prop :=
  ∀ (s : State) (v : Word),
    WritesReg s (s.push16 v) .sp (s.regs.sp - 2) ∧
    StoresWords s (s.push16 v) s.segs.ss [(s.regs.sp - 2, v)] ∧
    s.pop16.1 = s.readWord s.segs.ss s.regs.sp ∧
    s.pop16.2 = { s with regs := s.pop16.2.regs } ∧ WritesReg s s.pop16.2 .sp (s.regs.sp + 2) ∧
    (isUnmapped s.cfg (phys s.segs.ss (s.regs.sp - 2)).toNat = false →
      isUnmapped s.cfg (phys s.segs.ss (s.regs.sp - 1)).toNat = false →
      ((s.push16 v).pop16).1 = v ∧ ((s.push16 v).pop16).2.regs = s.regs)

/-! ## The Flag/ALU Engine -/

/-- O19. 41_arithmetic.md R276, R251, R252: CF is the unsigned carry or borrow, OF the signed overflow and
AF the carry out of or borrow into bit 3, for bytes and words. -/
def Obligations.CarryAndOverflow : Prop :=
  ∀ n, n = 8 ∨ n = 16 → ∀ (a b : BitVec n) (c : Bool) (f : Flags),
    ((addFlags a b c f).CF = true ↔ (addResult a b c).toNat < a.toNat + b.toNat + c.toNat) ∧
    ((addFlags a b c f).OF = true ↔ (addResult a b c).toInt ≠ a.toInt + b.toInt + c.toNat) ∧
    ((addFlags a b c f).AF = true ↔ 16 ≤ a.toNat % 16 + b.toNat % 16 + c.toNat) ∧
    ((subFlags a b c f).CF = true ↔ a.toNat < b.toNat + c.toNat) ∧
    ((subFlags a b c f).OF = true ↔ (subResult a b c).toInt ≠ a.toInt - b.toInt - c.toNat) ∧
    ((subFlags a b c f).AF = true ↔ a.toNat % 16 < b.toNat % 16 + c.toNat)

/-- O20. 42_logic.md R306 to R313: the steps of a shift or rotate, in closed form, for any count; a
rotate through carry by N + 1 changes nothing. The unmasked count is decided in 92_eei_decisions.md
D30. -/
def Obligations.ShiftsInClosedForm : Prop :=
  ∀ n, n = 8 ∨ n = 16 → ∀ (op : ShiftOp) (count : Nat) (x : BitVec n) (c : Bool),
    (count ≠ 0 → shiftSteps op count (x, c) = closedShift op count x c) ∧
    shiftSteps .rcl (n + 1) (x, c) = (x, c) ∧ shiftSteps .rcr (n + 1) (x, c) = (x, c)

/-- O21. 41_arithmetic.md R270, R271, R276: quotient and remainder of the divisions and when they do not
exist. -/
def Obligations.DivisionLaws : Prop :=
  ∀ n, n = 8 ∨ n = 16 → ∀ hi lo d : BitVec n,
    (∀ q r, divU hi lo d = some (q, r) →
      (hi ++ lo).toNat = q.toNat * d.toNat + r.toNat ∧ r.toNat < d.toNat) ∧
    (divU hi lo d = none ↔ d.toNat = 0 ∨ 2 ^ n ≤ (hi ++ lo).toNat / d.toNat) ∧
    (∀ q r, divS hi lo d = some (q, r) →
      (hi ++ lo).toInt = q.toInt * d.toInt + r.toInt ∧ r.toInt.natAbs < d.toInt.natAbs ∧
      (r.toInt = 0 ∨ (r.toInt < 0 ↔ (hi ++ lo).toInt < 0)) ∧ q.toInt ≠ -2 ^ (n - 1)) ∧
    (divS hi lo d = none ↔
      d.toInt = 0 ∨ 2 ^ (n - 1) - 1 < ((hi ++ lo).toInt.tdiv d.toInt).natAbs)

/-! ## Arithmetic and logic instructions -/

/-- O22. 41_arithmetic.md R251 to R256, R260 to R262, 42_logic.md R300, R302 to R304: the byte forms of
the eight two-operand operations complete, with result, flags and frame. AF after a logic operation is
free by 92_eei_decisions.md D31, that of the quirk a parameter by D35. -/
def Obligations.AluByteForms : Prop :=
  ∀ (op : AluOp) (s : State) (e : RM Reg8) (g : Reg8) (imm : Byte),
    AluByteDone op s e (s.regs.get8 g) (exec (aluEbGb op e g) s) ∧
    AluByteDone op s (.reg g) (s.rdE8 e) (exec (aluGbEb op g e) s) ∧
    AluByteDone op s (.reg .al) imm (exec (aluAlIb op imm) s) ∧
    AluByteDone op s e imm (exec (aluEbIb op e imm) s) ∧
    AluByteDone op s e imm (exec (aluEbIb82 op e imm) s)

/-- O23. The word forms; the immediate of 83 is sign-extended. The free flags are as in O22. -/
def Obligations.AluWordForms : Prop :=
  ∀ (op : AluOp) (s : State) (e : RM Reg) (g : Reg) (imm : Word) (ib : Byte),
    AluWordDone op s e (s.regs.get g) (exec (aluEvGv op e g) s) ∧
    AluWordDone op s (.reg g) (s.rdE16 e) (exec (aluGvEv op g e) s) ∧
    AluWordDone op s (.reg .ax) imm (exec (aluAxIv op imm) s) ∧
    AluWordDone op s e imm (exec (aluEvIv op e imm) s) ∧
    AluWordDone op s e (ib.signExtend 16) (exec (aluEvIbSx op e ib) s)

/-- O24. 41_arithmetic.md R253: in the quirk's case ADC and SBB leave the value unchanged with CF set
and OF clear. AF there is a parameter by 92_eei_decisions.md D35 and is not stated here. -/
def Obligations.CarryQuirk : Prop :=
  ∀ (s : State) (e : RM Reg8) (w : RM Reg), s.flags.CF = true →
    (∃ t, exec (.adcEbIb e 0xFF) s = .next t ∧ PutsByte s t (s.rdE8 e) (s.locate e) ∧
      t.flags.CF = true ∧ t.flags.OF = false) ∧
    (∃ t, exec (.sbbEbIb e 0xFF) s = .next t ∧ PutsByte s t (s.rdE8 e) (s.locate e) ∧
      t.flags.CF = true ∧ t.flags.OF = false) ∧
    (∃ t, exec (.adcEvIv w 0xFFFF) s = .next t ∧ PutsWord s t (s.rdE16 w) (s.locate w) ∧
      t.flags.CF = true ∧ t.flags.OF = false) ∧
    (∃ t, exec (.sbbEvIbSx w 0xFF) s = .next t ∧ PutsWord s t (s.rdE16 w) (s.locate w) ∧
      t.flags.CF = true ∧ t.flags.OF = false)

/-- O25. 41_arithmetic.md R257, R263: INC and DEC complete; CF is kept. -/
def Obligations.IncrementDecrementForms : Prop :=
  ∀ (s : State) (e : RM Reg8) (w : RM Reg) (g : Reg),
    (∃ t f, exec (.incEb e) s = .next t ∧ OnlyData s t ∧ SystemFlagsKept s.flags t.flags ∧
      PutsByte s t (s.rdE8 e + 1) (s.locate e) ∧ t.flags = { f with CF := s.flags.CF } ∧
      AddHolds (s.rdE8 e) 1 false (s.rdE8 e + 1) f ∧ f.AF = auxiliary (s.rdE8 e) 1 (s.rdE8 e + 1)) ∧
    (∃ t f, exec (.decEb e) s = .next t ∧ OnlyData s t ∧ SystemFlagsKept s.flags t.flags ∧
      PutsByte s t (s.rdE8 e - 1) (s.locate e) ∧ t.flags = { f with CF := s.flags.CF } ∧
      SubHolds (s.rdE8 e) 1 false (s.rdE8 e - 1) f ∧ f.AF = auxiliary (s.rdE8 e) 1 (s.rdE8 e - 1)) ∧
    (∀ i x, (i, x) ∈ [(Instr.incEv w, w), (Instr.incR16 g, .reg g)] →
      ∃ t f, exec i s = .next t ∧ OnlyData s t ∧ SystemFlagsKept s.flags t.flags ∧
        PutsWord s t (s.rdE16 x + 1) (s.locate x) ∧ t.flags = { f with CF := s.flags.CF } ∧
        AddHolds (s.rdE16 x) 1 false (s.rdE16 x + 1) f ∧
        f.AF = auxiliary (s.rdE16 x) 1 (s.rdE16 x + 1)) ∧
    (∀ i x, (i, x) ∈ [(Instr.decEv w, w), (Instr.decR16 g, .reg g)] →
      ∃ t f, exec i s = .next t ∧ OnlyData s t ∧ SystemFlagsKept s.flags t.flags ∧
        PutsWord s t (s.rdE16 x - 1) (s.locate x) ∧ t.flags = { f with CF := s.flags.CF } ∧
        SubHolds (s.rdE16 x) 1 false (s.rdE16 x - 1) f ∧
        f.AF = auxiliary (s.rdE16 x) 1 (s.rdE16 x - 1))

/-- O26. 41_arithmetic.md R264, 42_logic.md R301: NEG with its flags, NOT without any. -/
def Obligations.NegateAndNot : Prop :=
  ∀ (s : State) (e : RM Reg8) (w : RM Reg),
    (∃ t, exec (.negEb e) s = .next t ∧ OnlyData s t ∧ SystemFlagsKept s.flags t.flags ∧
      PutsByte s t (-s.rdE8 e) (s.locate e) ∧ ResultFlags (-s.rdE8 e) t.flags ∧
      t.flags.CF = decide (s.rdE8 e ≠ 0) ∧ t.flags.OF = decide (s.rdE8 e = 0x80) ∧
      t.flags.AF = decide ((s.rdE8 e).toNat % 16 ≠ 0)) ∧
    (∃ t, exec (.negEv w) s = .next t ∧ OnlyData s t ∧ SystemFlagsKept s.flags t.flags ∧
      PutsWord s t (-s.rdE16 w) (s.locate w) ∧ ResultFlags (-s.rdE16 w) t.flags ∧
      t.flags.CF = decide (s.rdE16 w ≠ 0) ∧ t.flags.OF = decide (s.rdE16 w = 0x8000) ∧
      t.flags.AF = decide ((s.rdE16 w).toNat % 16 ≠ 0)) ∧
    (∃ t, exec (.notEb e) s = .next t ∧ OnlyData s t ∧ t.flags = s.flags ∧ t.draws = s.draws ∧
      PutsByte s t (BitVec.allOnes 8 ^^^ s.rdE8 e) (s.locate e)) ∧
    (∃ t, exec (.notEv w) s = .next t ∧ OnlyData s t ∧ t.flags = s.flags ∧ t.draws = s.draws ∧
      PutsWord s t (BitVec.allOnes 16 ^^^ s.rdE16 w) (s.locate w))

/-- O27. 42_logic.md R300, R305, 46_undocumented.md R448: TEST writes flags only; F6 /1 and F7 /1 are
TEST under `silicon`. AF is free (92_eei_decisions.md D31). -/
def Obligations.TestForms : Prop :=
  ∀ (s : State) (e : RM Reg8) (w : RM Reg) (g : Reg8) (h : Reg) (ib : Byte) (iw : Word),
    (∀ i (b a : Byte),
      (i, a, b) ∈ [(Instr.testEbGb e g, s.rdE8 e, s.regs.get8 g), (.testAlIb ib, s.regs.get8 .al, ib),
        (.testEbIb e ib, s.rdE8 e, ib)] ∨
      (s.cfg.undoc = .silicon ∧ i = .testEbIbF1 e ib ∧ a = s.rdE8 e ∧ b = ib) →
      ∃ t, exec i s = .next t ∧ t = { s with flags := t.flags, draws := t.draws } ∧
        SystemFlagsKept s.flags t.flags ∧ LogicHolds (a &&& b) t.flags) ∧
    (∀ i (b a : Word),
      (i, a, b) ∈ [(Instr.testEvGv w h, s.rdE16 w, s.regs.get h), (.testAxIv iw, s.regs.get .ax, iw),
        (.testEvIv w iw, s.rdE16 w, iw)] ∨
      (s.cfg.undoc = .silicon ∧ i = .testEvIvF1 w iw ∧ a = s.rdE16 w ∧ b = iw) →
      ∃ t, exec i s = .next t ∧ t = { s with flags := t.flags, draws := t.draws } ∧
        SystemFlagsKept s.flags t.flags ∧ LogicHolds (a &&& b) t.flags)

/-- O28. 42_logic.md R306 to R313: the 28 shift and rotate forms, with the count 1 or CL, unmasked. The
unmasked count is decided in 92_eei_decisions.md D30. -/
def Obligations.ShiftForms : Prop :=
  ∀ (op : ShiftOp) (s : State) (e : RM Reg8) (w : RM Reg),
    ShiftByteDone op s e 1 (exec (shiftEb1 op e) s) ∧
    ShiftWordDone op s w 1 (exec (shiftEv1 op w) s) ∧
    ShiftByteDone op s e (s.regs.get8 .cl).toNat (exec (shiftEbCl op e) s) ∧
    ShiftWordDone op s w (s.regs.get8 .cl).toNat (exec (shiftEvCl op w) s)

/-- O29. 41_arithmetic.md R267, R268: the exact products; CF and OF say whether the upper half carries
information; the other flags are not constrained. The variant and the REP prefix are refused otherwise
(92_eei_decisions.md D15, D34; O59). -/
def Obligations.MultiplyForms : Prop :=
  ∀ (s : State) (e : RM Reg8) (w : RM Reg), s.rep = none → s.cfg.cpuVariant = .intel →
    (∃ t, exec (.mulEb e) s = .next t ∧ OnlyData s t ∧ NoStore s t ∧ SystemFlagsKept s.flags t.flags ∧
      KeepsRegsBut [.ax] s t ∧ t.regs.ax.toNat = (s.regs.get8 .al).toNat * (s.rdE8 e).toNat ∧
      t.flags.CF = decide (256 ≤ t.regs.ax.toNat) ∧ t.flags.OF = t.flags.CF) ∧
    (∃ t, exec (.mulEv w) s = .next t ∧ OnlyData s t ∧ NoStore s t ∧ SystemFlagsKept s.flags t.flags ∧
      KeepsRegsBut [.ax, .dx] s t ∧
      (t.regs.dx ++ t.regs.ax).toNat = s.regs.ax.toNat * (s.rdE16 w).toNat ∧
      t.flags.CF = decide (t.regs.dx ≠ 0) ∧ t.flags.OF = t.flags.CF) ∧
    (∃ t, exec (.imulEb e) s = .next t ∧ OnlyData s t ∧ NoStore s t ∧ SystemFlagsKept s.flags t.flags ∧
      KeepsRegsBut [.ax] s t ∧ t.regs.ax.toInt = (s.regs.get8 .al).toInt * (s.rdE8 e).toInt ∧
      t.flags.CF = decide (t.regs.ax.toInt < -128 ∨ 128 ≤ t.regs.ax.toInt) ∧ t.flags.OF = t.flags.CF) ∧
    (∃ t, exec (.imulEv w) s = .next t ∧ OnlyData s t ∧ NoStore s t ∧ SystemFlagsKept s.flags t.flags ∧
      KeepsRegsBut [.ax, .dx] s t ∧
      (t.regs.dx ++ t.regs.ax).toInt = s.regs.ax.toInt * (s.rdE16 w).toInt ∧
      t.flags.CF = decide (t.regs.dx ++ t.regs.ax ≠ t.regs.ax.signExtend 32) ∧
      t.flags.OF = t.flags.CF)

/-- O30. 41_arithmetic.md R270, R271: the divisions complete where the quotient fits; the six
arithmetic flags are not constrained. The free flags are decided in 92_eei_decisions.md D40, the range
of IDIV in D11. -/
def Obligations.DivideForms : Prop :=
  ∀ (s : State) (e : RM Reg8) (w : RM Reg), s.rep = none →
    (s.regs.get8 .ah < s.rdE8 e →
      ∃ t, exec (.divEb e) s = .next t ∧ OnlyData s t ∧ NoStore s t ∧
        SystemFlagsKept s.flags t.flags ∧ KeepsRegsBut [.ax] s t ∧
        (t.regs.get8 .al).toNat = s.regs.ax.toNat / (s.rdE8 e).toNat ∧
        (t.regs.get8 .ah).toNat = s.regs.ax.toNat % (s.rdE8 e).toNat) ∧
    (s.regs.dx < s.rdE16 w →
      ∃ t, exec (.divEv w) s = .next t ∧ OnlyData s t ∧ NoStore s t ∧
        SystemFlagsKept s.flags t.flags ∧ KeepsRegsBut [.ax, .dx] s t ∧
        t.regs.ax.toNat = (s.regs.dx ++ s.regs.ax).toNat / (s.rdE16 w).toNat ∧
        t.regs.dx.toNat = (s.regs.dx ++ s.regs.ax).toNat % (s.rdE16 w).toNat) ∧
    (s.rdE8 e ≠ 0 → (s.regs.ax.toInt.tdiv (s.rdE8 e).toInt).natAbs ≤ 127 →
      ∃ t, exec (.idivEb e) s = .next t ∧ OnlyData s t ∧ NoStore s t ∧
        SystemFlagsKept s.flags t.flags ∧ KeepsRegsBut [.ax] s t ∧
        (t.regs.get8 .al).toInt = s.regs.ax.toInt.tdiv (s.rdE8 e).toInt ∧
        (t.regs.get8 .ah).toInt = s.regs.ax.toInt.tmod (s.rdE8 e).toInt) ∧
    (s.rdE16 w ≠ 0 → ((s.regs.dx ++ s.regs.ax).toInt.tdiv (s.rdE16 w).toInt).natAbs ≤ 32767 →
      ∃ t, exec (.idivEv w) s = .next t ∧ OnlyData s t ∧ NoStore s t ∧
        SystemFlagsKept s.flags t.flags ∧ KeepsRegsBut [.ax, .dx] s t ∧
        t.regs.ax.toInt = (s.regs.dx ++ s.regs.ax).toInt.tdiv (s.rdE16 w).toInt ∧
        t.regs.dx.toInt = (s.regs.dx ++ s.regs.ax).toInt.tmod (s.rdE16 w).toInt)

/-- O31. 60_exceptions.md R502: DIV with a divisor not above the upper half of the dividend, IDIV with a zero
divisor or a quotient out of range, and AAM with base 0 raise the divide error inside EXECUTE: vector 0 is
entered with the return address `ip_next`, the flags as they were are pushed, no destination register changes,
and the arithmetic flags left in FLAGS are not constrained. The spec decides the return address and the free
flags in 92_eei_decisions.md D10 and D40; that the flags are drawn after the push is read from
95_test_vectors.md V41.33 (log 11). -/
def Obligations.DivideErrorForms : Prop :=
  ∀ (s : State) (e : RM Reg8) (w : RM Reg) (i : Instr),
    ((s.rep = none ∧
      ((i = .divEb e ∧ s.rdE8 e ≤ s.regs.get8 .ah) ∨ (i = .divEv w ∧ s.rdE16 w ≤ s.regs.dx) ∨
       (i = .idivEb e ∧ (s.rdE8 e = 0 ∨ 127 < (s.regs.ax.toInt.tdiv (s.rdE8 e).toInt).natAbs)) ∨
       (i = .idivEv w ∧ (s.rdE16 w = 0 ∨
         32767 < ((s.regs.dx ++ s.regs.ax).toInt.tdiv (s.rdE16 w).toInt).natAbs)))) ∨
     i = .aamIb 0) →
    ∃ t u f n, exec i s = .next t ∧ Entered s u 0 s.ip ∧ SystemFlagsKept u.flags f ∧
      t = { u with flags := f, draws := n }

/-- O32. 41_arithmetic.md R258, R259, R265, R266: the adjustments of AL (and AH) and the flags they
define. -/
def Obligations.DecimalAdjustForms : Prop :=
  ∀ (s : State), ∃ (al : Byte) (low high : Bool), al = s.regs.get8 .al ∧
    low = (decide (9 < (al &&& 0x0F).toNat) || s.flags.AF) ∧
    high = (decide (0x99 < al.toNat) || s.flags.CF) ∧
    (∃ t, exec .aaa s = .next t ∧ OnlyData s t ∧ NoStore s t ∧ KeepsRegsBut [.ax] s t ∧
      SystemFlagsKept s.flags t.flags ∧ t.flags.AF = low ∧ t.flags.CF = low ∧
      t.regs.get8 .al = (if low then al + 6 else al) &&& 0x0F ∧
      t.regs.get8 .ah = if low then s.regs.get8 .ah + 1 else s.regs.get8 .ah) ∧
    (∃ t, exec .aas s = .next t ∧ OnlyData s t ∧ NoStore s t ∧ KeepsRegsBut [.ax] s t ∧
      SystemFlagsKept s.flags t.flags ∧ t.flags.AF = low ∧ t.flags.CF = low ∧
      t.regs.get8 .al = (if low then al - 6 else al) &&& 0x0F ∧
      t.regs.get8 .ah = if low then s.regs.get8 .ah - 1 else s.regs.get8 .ah) ∧
    (∃ t, exec .daa s = .next t ∧ OnlyData s t ∧ NoStore s t ∧ WritesReg8 s t .al (t.regs.get8 .al) ∧
      SystemFlagsKept s.flags t.flags ∧ t.flags.AF = low ∧ t.flags.CF = high ∧
      ResultFlags (t.regs.get8 .al) t.flags ∧
      (t.regs.get8 .al).toNat = (al.toNat + (if low then 6 else 0) + (if high then 0x60 else 0)) % 256) ∧
    (∃ t, exec .das s = .next t ∧ OnlyData s t ∧ NoStore s t ∧ WritesReg8 s t .al (t.regs.get8 .al) ∧
      SystemFlagsKept s.flags t.flags ∧ t.flags.AF = low ∧
      t.flags.CF = (high || (low && decide (al.toNat < 6))) ∧
      ResultFlags (t.regs.get8 .al) t.flags ∧
      ((t.regs.get8 .al).toNat : Int) =
        (al.toNat - (if low then 6 else 0) - (if high then 0x60 else 0)) % 256)

/-- O33. 41_arithmetic.md R269, R272 to R274: AAM with a base other than 0, AAD, CBW and CWD. -/
def Obligations.AsciiBaseAndSignExtension : Prop :=
  ∀ (s : State) (ib : Byte),
    (ib ≠ 0 → ∃ t, exec (.aamIb ib) s = .next t ∧ OnlyData s t ∧ NoStore s t ∧ KeepsRegsBut [.ax] s t ∧
      SystemFlagsKept s.flags t.flags ∧ ResultFlags (t.regs.get8 .al) t.flags ∧
      (t.regs.get8 .ah).toNat = (s.regs.get8 .al).toNat / ib.toNat ∧
      (t.regs.get8 .al).toNat = (s.regs.get8 .al).toNat % ib.toNat) ∧
    (s.cfg.cpuVariant = .intel →
      ∃ t, exec (.aadIb ib) s = .next t ∧ OnlyData s t ∧ NoStore s t ∧ KeepsRegsBut [.ax] s t ∧
        SystemFlagsKept s.flags t.flags ∧ ResultFlags (t.regs.get8 .al) t.flags ∧
        t.regs.get8 .ah = 0 ∧ (t.regs.get8 .al).toNat =
          ((s.regs.get8 .al).toNat + (s.regs.get8 .ah).toNat * ib.toNat) % 256) ∧
    (∃ t, exec .cbw s = .next t ∧ t = { s with regs := t.regs } ∧ KeepsRegsBut [.ax] s t ∧
      t.regs.ax.toInt = (s.regs.get8 .al).toInt) ∧
    (∃ t, exec .cwd s = .next t ∧ t = { s with regs := t.regs } ∧ KeepsRegsBut [.dx] s t ∧
      (t.regs.dx ++ s.regs.ax).toInt = s.regs.ax.toInt)

/-! ## Data transfer -/

/-- O34. 40_data_transfer.md R201 to R204: the moves between registers, memory and immediates; no flag
changes. -/
def Obligations.MoveForms : Prop :=
  ∀ (s : State) (e : RM Reg8) (w : RM Reg) (g : Reg8) (h : Reg) (ib : Byte) (iw off : Word),
    (∀ i (l : Loc Reg8) (v : Byte),
      (i, l, v) ∈ [(Instr.movEbGb e g, s.locate e, s.regs.get8 g), (.movGbEb g e, .reg g, s.rdE8 e),
        (.movEbIb e ib, s.locate e, ib), (.movR8Ib g ib, .reg g, ib),
        (.movAlOb off, .reg .al, s.readByte (s.segs.get (s.ovr.getD .ds)) off),
        (.movObAl off, .mem (s.segs.get (s.ovr.getD .ds)) off, s.regs.get8 .al)] →
      ∃ t, exec i s = .next t ∧ OnlyData s t ∧ t.flags = s.flags ∧ t.draws = s.draws ∧
        PutsByte s t v l) ∧
    (∀ i (l : Loc Reg) (v : Word),
      (i, l, v) ∈ [(Instr.movEvGv w h, s.locate w, s.regs.get h), (.movGvEv h w, .reg h, s.rdE16 w),
        (.movEvIv w iw, s.locate w, iw), (.movR16Iv h iw, .reg h, iw),
        (.movAxOv off, .reg .ax, s.readWord (s.segs.get (s.ovr.getD .ds)) off),
        (.movOvAx off, .mem (s.segs.get (s.ovr.getD .ds)) off, s.regs.get .ax)] →
      ∃ t, exec i s = .next t ∧ OnlyData s t ∧ t.flags = s.flags ∧ t.draws = s.draws ∧
        PutsWord s t v l)

/-- O35. 40_data_transfer.md R205, R206, R211, R220, R221, 46_undocumented.md R441: the moves from and
to segment registers. MOV and POP set the suppression flag, LDS and LES do not; a load of CS empties
the queue. The suppression flag is decided in 92_eei_decisions.md D19, the load of CS in D45. -/
def Obligations.SegmentRegisterForms : Prop :=
  ∀ (s : State) (w : RM Reg) (x : SReg) (g : Reg) (m : MemRef),
    (∃ t, exec (.movEwSreg w x) s = .next t ∧ OnlyData s t ∧ t.flags = s.flags ∧ t.draws = s.draws ∧
      PutsWord s t (s.segs.get x) (s.locate w)) ∧
    (∃ t, exec (.movSregEw x w) s = .next t ∧
      t = { s with segs := t.segs, noint := true, queue := if x = .cs then [] else s.queue } ∧
      t.segs.get x = s.rdE16 w ∧ ∀ y, y ≠ x → t.segs.get y = s.segs.get y) ∧
    (∀ i y, (i, y) ∈ [(Instr.popEs, SReg.es), (.popCs, .cs), (.popSs, .ss), (.popDs, .ds)] →
      ∃ t, exec i s = .next t ∧
        t = { s with
          segs := t.segs, regs := t.regs, noint := true, queue := if y = .cs then [] else s.queue } ∧
        t.segs.get y = stackWord s 0 ∧ (∀ z, z ≠ y → t.segs.get z = s.segs.get z) ∧
        WritesReg s t .sp (s.regs.sp + 2)) ∧
    (∀ i y, (i, y) ∈ [(Instr.ldsGvMp g (.mem m), SReg.ds), (.lesGvMp g (.mem m), .es)] →
      ∃ t sg, exec i s = .next t ∧ t = { s with segs := t.segs, regs := t.regs } ∧
        s.locate (.mem m : RM Reg) = .mem sg (effOffset s.regs m) ∧
        WritesReg s t g (s.readWord sg (effOffset s.regs m)) ∧
        t.segs.get y = s.readWord sg (effOffset s.regs m + 2) ∧
        ∀ z, z ≠ y → t.segs.get z = s.segs.get z)

/-- O36. 40_data_transfer.md R207 to R209, R224: the pushes. PUSH SP, in both encodings, stores the
decremented SP. The word stored by PUSH SP is decided in 92_eei_decisions.md D29. -/
def Obligations.PushForms : Prop :=
  ∀ (s : State) (r : Reg) (m : MemRef) (i : Instr) (v : Word),
    (i, v) ∈ [(Instr.pushR16 r, if r = .sp then s.regs.sp - 2 else s.regs.get r),
      (.pushEv (.reg r), if r = .sp then s.regs.sp - 2 else s.regs.get r),
      (.pushEv (.mem m), s.rdE16 (.mem m)), (.pushEs, s.segs.es), (.pushCs, s.segs.cs),
      (.pushSs, s.segs.ss), (.pushDs, s.segs.ds), (.pushf, s.flags.image)] →
    ∃ t, exec i s = .next t ∧ OnlyData s t ∧ t.flags = s.flags ∧ t.draws = s.draws ∧
      WritesReg s t .sp (s.regs.sp - 2) ∧ StoresWords s t s.segs.ss [(s.regs.sp - 2, v)] ∧
      QueueKept s t

/-- O37. 40_data_transfer.md R210, R212, R225: the pops. POP SP leaves the word read in SP; the place of a
memory operand is that before SP changes. That POPF leaves the suppression flag is decided in
92_eei_decisions.md D19, the reserved bits of the image in D6. -/
def Obligations.PopForms : Prop :=
  ∀ (s : State) (r : Reg) (m : MemRef),
    (∀ i, i ∈ [Instr.popR16 r, .popEv (.reg r)] →
      ∃ t, exec i s = .next t ∧ t = { s with regs := t.regs } ∧ t.regs.get r = stackWord s 0 ∧
        KeepsRegsBut [r, .sp] s t ∧ (r ≠ .sp → t.regs.sp = s.regs.sp + 2)) ∧
    (∃ t sg, exec (.popEv (.mem m)) s = .next t ∧ OnlyData s t ∧ t.flags = s.flags ∧
      t.draws = s.draws ∧ WritesReg s t .sp (s.regs.sp + 2) ∧
      s.locate (.mem m : RM Reg) = .mem sg (effOffset s.regs m) ∧
      StoresWords s t sg [(effOffset s.regs m, stackWord s 0)] ∧ QueueKept s t) ∧
    (∃ t, exec .popf s = .next t ∧ t = { s with regs := t.regs, flags := t.flags } ∧
      WritesReg s t .sp (s.regs.sp + 2) ∧
      t.flags.image = (stackWord s 0 &&& 0x0FD5) ||| 0xF002)

/-- O38. 40_data_transfer.md R222, R223: LAHF and SAHF. -/
def Obligations.FlagTransfers : Prop :=
  ∀ s : State,
    (∃ t, exec .lahf s = .next t ∧ t = { s with regs := t.regs } ∧
      WritesReg8 s t .ah (s.flags.image.setWidth 8) ∧
      (t.regs.get8 .ah).getLsbD 1 = true ∧ (t.regs.get8 .ah).getLsbD 3 = false ∧
      (t.regs.get8 .ah).getLsbD 5 = false) ∧
    (∃ t, exec .sahf s = .next t ∧ t = { s with flags := t.flags } ∧
      SystemFlagsKept s.flags t.flags ∧ t.flags.OF = s.flags.OF ∧
      t.flags.image.setWidth 8 = (s.regs.get8 .ah &&& 0xD5) ||| 0x02)

/-- O39. 40_data_transfer.md R213 to R215: the exchanges, and the exchange of AX with itself (NOP). -/
def Obligations.ExchangeForms : Prop :=
  ∀ (s : State) (g g' : Reg8) (h h' : Reg) (m : MemRef),
    (∃ t, exec (.xchgEbGb (.reg g') g) s = .next t ∧ t = { s with regs := t.regs } ∧
      t.regs.get8 g = s.regs.get8 g' ∧ t.regs.get8 g' = s.regs.get8 g ∧
      (∀ x, x ≠ g → x ≠ g' → t.regs.get8 x = s.regs.get8 x) ∧
      KeepsRegsBut [.ax, .cx, .dx, .bx] s t) ∧
    (∃ t, exec (.xchgEvGv (.reg h') h) s = .next t ∧ t = { s with regs := t.regs } ∧
      t.regs.get h = s.regs.get h' ∧ t.regs.get h' = s.regs.get h ∧ KeepsRegsBut [h, h'] s t) ∧
    (∃ t sg, exec (.xchgEbGb (.mem m) g) s = .next t ∧ OnlyData s t ∧ t.flags = s.flags ∧
      t.draws = s.draws ∧ s.locate (.mem m : RM Reg8) = .mem sg (effOffset s.regs m) ∧
      StoresByte s t sg (effOffset s.regs m) (s.regs.get8 g) ∧ QueueKept s t ∧
      WritesReg8 s t g (s.readByte sg (effOffset s.regs m))) ∧
    (∃ t sg, exec (.xchgEvGv (.mem m) h) s = .next t ∧ OnlyData s t ∧ t.flags = s.flags ∧
      t.draws = s.draws ∧ s.locate (.mem m : RM Reg) = .mem sg (effOffset s.regs m) ∧
      StoresWords s t sg [(effOffset s.regs m, s.regs.get h)] ∧ QueueKept s t ∧
      WritesReg s t h (s.readWord sg (effOffset s.regs m))) ∧
    (∀ i x, (i, x) ∈ [(Instr.nop, Reg.ax), (.xchgAxCx, .cx), (.xchgAxDx, .dx), (.xchgAxBx, .bx),
        (.xchgAxSp, .sp), (.xchgAxBp, .bp), (.xchgAxSi, .si), (.xchgAxDi, .di)] →
      ∃ t, exec i s = .next t ∧ t = { s with regs := t.regs } ∧ t.regs.ax = s.regs.get x ∧
        t.regs.get x = s.regs.ax ∧ KeepsRegsBut [.ax, x] s t)

/-- O40. 40_data_transfer.md R216, R217, 20_memory.md R88: the port instructions are one call each,
which is recorded; a value read is not constrained. A word is one call by 92_eei_decisions.md D37; the
record, of reads above all, is the model's (log 8). -/
def Obligations.PortForms : Prop :=
  ∀ (s : State) (ib : Byte),
    (∀ i p, (i, p) ∈ [(Instr.inAlIb ib, ib.setWidth 16), (.inAlDx, s.regs.dx)] →
      ∃ t v, exec i s = .next t ∧
        t = { s with regs := t.regs, ioLog := .readByte p v :: s.ioLog, draws := t.draws } ∧
        WritesReg8 s t .al v) ∧
    (∀ i p, (i, p) ∈ [(Instr.inAxIb ib, ib.setWidth 16), (.inAxDx, s.regs.dx)] →
      ∃ t v, exec i s = .next t ∧
        t = { s with regs := t.regs, ioLog := .readWord p v :: s.ioLog, draws := t.draws } ∧
        WritesReg s t .ax v) ∧
    exec (.outIbAl ib) s = .next { s with ioLog := .writeByte (ib.setWidth 16) (s.regs.get8 .al) :: s.ioLog } ∧
    exec (.outIbAx ib) s = .next { s with ioLog := .writeWord (ib.setWidth 16) s.regs.ax :: s.ioLog } ∧
    exec .outDxAl s = .next { s with ioLog := .writeByte s.regs.dx (s.regs.get8 .al) :: s.ioLog } ∧
    exec .outDxAx s = .next { s with ioLog := .writeWord s.regs.dx s.regs.ax :: s.ioLog }

/-- O41. 40_data_transfer.md R218, R219, 46_undocumented.md R445: XLAT, LEA and SALC. -/
def Obligations.TableLookupAndAddress : Prop :=
  ∀ (s : State) (g : Reg) (m : MemRef),
    (∃ t, exec .xlat s = .next t ∧ t = { s with regs := t.regs } ∧
      WritesReg8 s t .al (s.readByte (s.segs.get (s.ovr.getD .ds))
        (BitVec.ofNat 16 (s.regs.bx.toNat + (s.regs.get8 .al).toNat)))) ∧
    (∃ t, exec (.leaGvM g (.mem m)) s = .next t ∧ t = { s with regs := t.regs } ∧
      WritesReg s t g (effOffset s.regs m)) ∧
    (∃ t, exec .salc s = .next t ∧ t = { s with regs := t.regs } ∧
      WritesReg8 s t .al (if s.flags.CF then 0xFF else 0x00))

/-! ## String instructions -/

/-- O42. 43_string.md R340, R343, R346, R347: one element of MOVS, LODS and STOS without a REP prefix.
The segments are decided in 92_eei_decisions.md D33. -/
def Obligations.StringMoveElements : Prop :=
  ∀ s : State, s.rep = none → ∃ src, src = s.segs.get (s.ovr.getD .ds) ∧
    (∃ t, exec .movsb s = .next t ∧ OnlyData s t ∧ t.flags = s.flags ∧ t.draws = s.draws ∧
      StoresByte s t s.segs.es s.regs.di (s.readByte src s.regs.si) ∧ QueueKept s t ∧
      KeepsRegsBut [.si, .di] s t ∧ t.regs.si = s.regs.si + indexStep s 1 ∧
      t.regs.di = s.regs.di + indexStep s 1) ∧
    (∃ t, exec .movsw s = .next t ∧ OnlyData s t ∧ t.flags = s.flags ∧ t.draws = s.draws ∧
      StoresWords s t s.segs.es [(s.regs.di, s.readWord src s.regs.si)] ∧ QueueKept s t ∧
      KeepsRegsBut [.si, .di] s t ∧ t.regs.si = s.regs.si + indexStep s 2 ∧
      t.regs.di = s.regs.di + indexStep s 2) ∧
    (∃ t, exec .stosb s = .next t ∧ OnlyData s t ∧ t.flags = s.flags ∧ t.draws = s.draws ∧
      StoresByte s t s.segs.es s.regs.di (s.regs.get8 .al) ∧ QueueKept s t ∧
      WritesReg s t .di (s.regs.di + indexStep s 1)) ∧
    (∃ t, exec .stosw s = .next t ∧ OnlyData s t ∧ t.flags = s.flags ∧ t.draws = s.draws ∧
      StoresWords s t s.segs.es [(s.regs.di, s.regs.ax)] ∧ QueueKept s t ∧
      WritesReg s t .di (s.regs.di + indexStep s 2)) ∧
    (∃ t, exec .lodsb s = .next t ∧ t = { s with regs := t.regs } ∧
      t.regs.get8 .al = s.readByte src s.regs.si ∧ t.regs.get8 .ah = s.regs.get8 .ah ∧
      KeepsRegsBut [.ax, .si] s t ∧ t.regs.si = s.regs.si + indexStep s 1) ∧
    (∃ t, exec .lodsw s = .next t ∧ t = { s with regs := t.regs } ∧
      t.regs.ax = s.readWord src s.regs.si ∧
      KeepsRegsBut [.ax, .si] s t ∧ t.regs.si = s.regs.si + indexStep s 2)

/-- O43. 43_string.md R340, R344, R345: one element of CMPS and SCAS without a REP prefix: the flags of
the source (or accumulator) minus the destination element; nothing is stored. The segments are decided
in 92_eei_decisions.md D33. -/
def Obligations.StringCompareElements : Prop :=
  ∀ s : State, s.rep = none → ∃ src, src = s.segs.get (s.ovr.getD .ds) ∧
    (∀ i (a : Byte) (moved : List Reg),
      (i, a, moved) ∈ [(Instr.cmpsb, s.readByte src s.regs.si, [Reg.si, .di]),
        (.scasb, s.regs.get8 .al, [.di])] →
      ∃ t r, exec i s = .next t ∧ t = { s with regs := t.regs, flags := t.flags } ∧
        SystemFlagsKept s.flags t.flags ∧
        SubHolds a (s.readByte s.segs.es s.regs.di) false r t.flags ∧
        t.flags.AF = auxiliary a (s.readByte s.segs.es s.regs.di) r ∧
        KeepsRegsBut moved s t ∧ ∀ x ∈ moved, t.regs.get x = s.regs.get x + indexStep s 1) ∧
    (∀ i (a : Word) (moved : List Reg),
      (i, a, moved) ∈ [(Instr.cmpsw, s.readWord src s.regs.si, [Reg.si, .di]),
        (.scasw, s.regs.ax, [.di])] →
      ∃ t r, exec i s = .next t ∧ t = { s with regs := t.regs, flags := t.flags } ∧
        SystemFlagsKept s.flags t.flags ∧
        SubHolds a (s.readWord s.segs.es s.regs.di) false r t.flags ∧
        t.flags.AF = auxiliary a (s.readWord s.segs.es s.regs.di) r ∧
        KeepsRegsBut moved s t ∧ ∀ x ∈ moved, t.regs.get x = s.regs.get x + indexStep s 2)

/-- O44. 43_string.md R341, R342, R348: a string instruction with a REP prefix. With CX = 0 nothing but
`ip` changes; else CX is one lower, one element is done as without the prefix, and the instruction goes
on repeating unless CX is 0 or the comparison ends it. The ends of a repeat are decided in
92_eei_decisions.md D16 and D17. -/
def Obligations.RepFirstIteration : Prop :=
  ∀ (s : State) (x : StrInsn) (k : RepKind), s.rep = some k → s.repeating = none →
    (s.regs.cx = 0 → exec (stringInstr x) s = .next s) ∧
    (s.regs.cx ≠ 0 → ∃ u, exec (stringInstr x) (elementStart s) = .next u ∧
      exec (stringInstr x) s = .next { u with
        rep := some k
        repeating := if repEnds x k u then none else some x })

/-- O45. 43_string.md R341, 60_exceptions.md R514: a step of a repeating string instruction. A pending
event ends it with `ip` backed up to `resume_ip` and the queue empty, and INTERRUPT-CHECK follows; else
it is one more iteration. The check of events is decided in 92_eei_decisions.md D17; the fill is the
model's (log 6). -/
def Obligations.RepLaterIteration : Prop :=
  ∀ (s : State) (x : StrInsn) (k : RepKind), s.halted = false → s.repeating = some x →
    s.rep = some k → s.regs.cx ≠ 0 → ∃ u : State, Filled s u ∧
      (eventPending s = true → step s = .next (State.endInstr { u with
        ip := match s.cfg.repResume with | .lastPrefix => s.opIp - 1 | .firstPrefix => s.startIp
        queue := []
        repeating := none })) ∧
      (eventPending s = false → ∃ v, exec (stringInstr x) (elementStart u) = .next v ∧
        step s = ended (.next { v with
          rep := some k
          repeating := if repEnds x k v then none else some x }))

/-- O46. 43_string.md R341, R342: undisturbed, a repeating MOVS, STOS or LODS ends after as many steps
as CX says, with CX = 0. The spec decides in 92_eei_decisions.md D16 that these repeat on CX alone;
`Host.Core.run` and no host action between are the model's (logs 15, 16). -/
def Obligations.RepRunsOutCount : Prop :=
  ∀ (s : State) (x : StrInsn) (k : RepKind), x.op ∈ [.movs, .stos, .lods] → s.halted = false →
    s.repeating = some x → s.rep = some k → s.regs.cx ≠ 0 →
    s.trapPending = false → s.nmiPending = false → s.flags.IF = false →
    ∃ t, Host.Core.run core s.regs.cx.toNat s = .next t ∧ t.regs.cx = 0 ∧ t.repeating = none ∧
      t.ip = s.ip ∧ t.segs = s.segs

/-! ## Control transfer -/

/-- O47. 44_control.md R370 to R372, R375 to R377, R380, R381, 46_undocumented.md R443: the near transfers.
Each empties the queue. -/
def Obligations.NearTransfers : Prop :=
  ∀ (s : State) (w : RM Reg) (rel : Word) (rb : Byte) (n : Word),
    (∀ i target, (i, target) ∈ [(Instr.jmpRel8 rb, s.ip + rb.signExtend 16), (.jmpRel16 rel, s.ip + rel),
        (.jmpEv w, s.rdE16 w)] → exec i s = .next (jumped s target)) ∧
    (∀ i target, (i, target) ∈ [(Instr.callRel16 rel, s.ip + rel), (.callEv w, s.rdE16 w)] →
      ∃ t, exec i s = .next t ∧
        Transferred s t (s.regs.sp - 2) [(s.regs.sp - 2, s.ip)] s.segs.cs target) ∧
    (∀ i k, (i, k) ∈ [(Instr.ret, (0 : Word)), (.retC1, 0), (.retIw n, n), (.retIwC0 n, n)] →
      ∃ t, exec i s = .next t ∧
        t = { s with regs := t.regs, ip := stackWord s 0, queue := [] } ∧
        WritesReg s t .sp (s.regs.sp + 2 + k))

/-- O48. 44_control.md R373, R374, R378, R379, R382, R383, 46_undocumented.md R444: the far transfers. The
pointer of an indirect one is read before anything is pushed. -/
def Obligations.FarTransfers : Prop :=
  ∀ (s : State) (m : MemRef) (off sg n : Word), ∃ msg,
    s.locate (.mem m : RM Reg) = .mem msg (effOffset s.regs m) ∧
    (∀ i csv offv, (i, csv, offv) ∈ [(Instr.jmpAp off sg, sg, off),
        (.jmpMp (.mem m), s.readWord msg (effOffset s.regs m + 2), s.readWord msg (effOffset s.regs m))] →
      exec i s = .next { s with segs := { s.segs with cs := csv }, ip := offv, queue := [] }) ∧
    (∀ i csv offv, (i, csv, offv) ∈ [(Instr.callAp off sg, sg, off),
        (.callMp (.mem m), s.readWord msg (effOffset s.regs m + 2), s.readWord msg (effOffset s.regs m))] →
      ∃ t, exec i s = .next t ∧
        Transferred s t (s.regs.sp - 4) [(s.regs.sp - 4, s.ip), (s.regs.sp - 2, s.segs.cs)] csv offv) ∧
    (∀ i k, (i, k) ∈ [(Instr.retf, (0 : Word)), (.retfC9, 0), (.retfIw n, n), (.retfIwC8 n, n)] →
      ∃ t, exec i s = .next t ∧
        t = { s with
          regs := t.regs, segs := { s.segs with cs := stackWord s 2 }, ip := stackWord s 0, queue := [] } ∧
        WritesReg s t .sp (s.regs.sp + 4 + k))

/-- O49. 44_control.md R384 to R400, 46_undocumented.md R442: the conditional jumps, each with its condition;
60+cccc jumps as 70+cccc does. -/
def Obligations.ConditionalJumps : Prop :=
  ∀ (s : State) (rel : Byte), ∃ f, f = s.flags ∧
    ∀ (k : BitVec 4) (i : Instr) (c : Bool),
      (k, i, c) ∈ [
        (0x0, Instr.joRel8 rel, f.OF), (0x1, .jnoRel8 rel, !f.OF),
        (0x2, .jbRel8 rel, f.CF), (0x3, .jnbRel8 rel, !f.CF),
        (0x4, .jeRel8 rel, f.ZF), (0x5, .jneRel8 rel, !f.ZF),
        (0x6, .jbeRel8 rel, f.CF || f.ZF), (0x7, .jaRel8 rel, !f.CF && !f.ZF),
        (0x8, .jsRel8 rel, f.SF), (0x9, .jnsRel8 rel, !f.SF),
        (0xA, .jpRel8 rel, f.PF), (0xB, .jnpRel8 rel, !f.PF),
        (0xC, .jlRel8 rel, f.SF != f.OF), (0xD, .jgeRel8 rel, f.SF == f.OF),
        (0xE, .jleRel8 rel, f.ZF || f.SF != f.OF), (0xF, .jgRel8 rel, !f.ZF && f.SF == f.OF)] →
      Branches s c rel (exec i s) ∧ Branches s c rel (exec (.jccAlias k rel) s) ∧
        encode i = [0x70#8 ||| k.setWidth 8, rel] ∧
        encode (.jccAlias k rel) = [0x60#8 ||| k.setWidth 8, rel]

/-- O50. 44_control.md R401 to R404: the loops decrement CX and jump while it is not 0; JCXZ reads it
only. -/
def Obligations.LoopForms : Prop :=
  ∀ (s : State) (rel : Byte), ∃ u : State, WritesReg s u .cx (s.regs.cx - 1) ∧
    u = { s with regs := u.regs } ∧
    Branches u (decide (s.regs.cx ≠ 1)) rel (exec (.loopRel8 rel) s) ∧
    Branches u (decide (s.regs.cx ≠ 1) && s.flags.ZF == true) rel (exec (.loopzRel8 rel) s) ∧
    Branches u (decide (s.regs.cx ≠ 1) && s.flags.ZF == false) rel (exec (.loopnzRel8 rel) s) ∧
    Branches s (decide (s.regs.cx = 0)) rel (exec (.jcxzRel8 rel) s)

/-! ## Exceptions -/

/-- O51. 44_control.md R405 to R407, 60_exceptions.md R506, R511 to R513: the software interrupts enter
their vector with the return address `ip_next`, whatever IF and the suppression flag hold; INTO with OF
= 0 does nothing. The table and the vectors are decided in 92_eei_decisions.md D7 and D8, that every
entry clears TF and IF in D9. -/
def Obligations.SoftwareInterrupts : Prop :=
  ∀ (s : State) (v : Byte),
    (∃ t, exec (.intIb v) s = .next t ∧ Entered s t v s.ip) ∧
    (∃ t, exec .int3 s = .next t ∧ Entered s t 3 s.ip) ∧
    (s.flags.OF = true → ∃ t, exec .into s = .next t ∧ Entered s t 4 s.ip) ∧
    (s.flags.OF = false → exec .into s = .next s)

/-- O52. 44_control.md R408: IRET pops ip, CS and FLAGS and empties the queue. The image is decided in
92_eei_decisions.md D6. -/
def Obligations.InterruptReturn : Prop :=
  ∀ s : State, ∃ t, exec .iret s = .next t ∧
    t = { s with
      regs := t.regs, segs := { s.segs with cs := stackWord s 2 }, ip := stackWord s 0,
      flags := t.flags, queue := [] } ∧
    WritesReg s t .sp (s.regs.sp + 6) ∧ t.flags.image = (stackWord s 4 &&& 0x0FD5) ||| 0xF002

/-- O53. 60_exceptions.md R512, R513, R516, 44_control.md R408: from an entry, IRET comes back to the
return address with CS, the nine flags and every general register as they were, for every SS and SP, if
the six stack bytes are mapped. The image and the clearing of TF and IF are decided in
92_eei_decisions.md D6 and D9; the map is the model's (log 5). -/
def Obligations.EntryThenReturn : Prop :=
  ∀ (s : State) (v : Byte) (ret : Word),
    (∀ k : Nat, k < 6 →
      isUnmapped s.cfg (phys s.segs.ss (s.regs.sp - 6 + BitVec.ofNat 16 k)).toNat = false) →
    ∃ t, exec .iret (s.service v ret) = .next t ∧ t.ip = ret ∧ t.segs = s.segs ∧
      t.flags = s.flags ∧ t.regs = s.regs ∧ t.queue = []

/-- O54. 60_exceptions.md R508 to R510, R514, R523: INTERRUPT-CHECK. A set suppression flag is cleared
and nothing is serviced; else the trap, else the enabled NMI (its latch cleared), else with IF = 1 the
controller's vector (acknowledged); at most one. The spec decides the latches in 92_eei_decisions.md
D20 to D22 and D41; that an acknowledged request is dropped from the list is the model's choice (log
9). -/
def Obligations.InterruptCheckPriority : Prop :=
  ∀ s : State, ∃ t, t = s.interruptCheck ∧
    (s.noint = true → t = { s with noint := false }) ∧
    (s.noint = false → s.trapPending = true → Entered s t 1 s.ip) ∧
    (s.noint = false → s.trapPending = false → s.nmiPending = true → s.nmiEnable = true →
      Entered { s with nmiPending := false } t 2 s.ip) ∧
    (s.noint = false → s.trapPending = false → (s.nmiPending && s.nmiEnable) = false →
      (∀ v vs, s.flags.IF = true → s.ctrl = v :: vs →
        Entered { s with ctrl := vs, acked := v :: s.acked } t v s.ip) ∧
      (s.flags.IF = false ∨ s.ctrl = [] → t = s))

/-- O55. 30_encoding.md R157, 60_exceptions.md R510: the end of an instruction clears the prefix and REP state
and then does INTERRUPT-CHECK; with the suppression flag set nothing else happens at this boundary. When
suppression is set is decided in 92_eei_decisions.md D19. -/
def Obligations.InstructionEnd : Prop :=
  ∀ s : State, ∃ u, u = { s with ovr := none, rep := none, lock := false, repeating := none } ∧
    s.endInstr = u.interruptCheck ∧ s.endInstr.ovr = none ∧ s.endInstr.rep = none ∧ s.endInstr.lock = false ∧
    s.endInstr.repeating = none ∧ s.endInstr.noint = false ∧
    (s.noint = true → s.endInstr = { u with noint := false }) ∧
    (s.noint = false → s.trapPending = true → Entered u s.endInstr 1 s.ip)

/-- O56. 45_processor_control.md R417, 60_exceptions.md R508, R525: a step of a halted core is a fill point and
INTERRUPT-CHECK without the trap; nothing is fetched. A set suppression flag is cleared and nothing is serviced;
else an enabled NMI enters vector 2 (its latch cleared), else with IF = 1 the controller's vector (acknowledged)
is entered, each with the return address `ip`; else nothing else changes. So the core is woken exactly by
these. The halt is decided in 92_eei_decisions.md D23; the schedule, the dropped request and the cleared trap
latch are the model's (logs 6, 9, 20). -/
def Obligations.HaltedStep : Prop :=
  ∀ s : State, s.halted = true → ∃ u t, Filled { s with trapPending := false } u ∧ step s = .next t ∧
    (s.noint = true → t = { u with noint := false }) ∧
    (s.noint = false → s.nmiPending = true → s.nmiEnable = true →
      Entered { u with nmiPending := false } t 2 s.ip) ∧
    (s.noint = false → (s.nmiPending && s.nmiEnable) = false →
      (∀ v vs, s.flags.IF = true → s.ctrl = v :: vs →
        Entered { u with ctrl := vs, acked := v :: s.acked } t v s.ip) ∧
      (s.flags.IF = false ∨ s.ctrl = [] → t = u)) ∧
    (t.halted = false ↔ s.noint = false ∧
      ((s.nmiPending = true ∧ s.nmiEnable = true) ∨ (s.flags.IF = true ∧ s.ctrl ≠ [])))

/-! ## Processor control -/

/-- O57. 45_processor_control.md R410 to R416, 60_exceptions.md R510: the flag instructions. STI sets
the suppression flag under `P_STI_SHADOW = 1` only. The shadow of STI is decided in 92_eei_decisions.md
D19. -/
def Obligations.FlagInstructions : Prop :=
  ∀ s : State,
    exec .clc s = .next { s with flags := { s.flags with CF := false } } ∧
    exec .stc s = .next { s with flags := { s.flags with CF := true } } ∧
    exec .cmc s = .next { s with flags := { s.flags with CF := !s.flags.CF } } ∧
    exec .cld s = .next { s with flags := { s.flags with DF := false } } ∧
    exec .std s = .next { s with flags := { s.flags with DF := true } } ∧
    exec .cli s = .next { s with flags := { s.flags with IF := false } } ∧
    (s.cfg.stiShadow = false → exec .sti s = .next { s with flags := { s.flags with IF := true } }) ∧
    (s.cfg.stiShadow = true →
      exec .sti s = .next { s with flags := { s.flags with IF := true }, noint := true })

/-- O58. 45_processor_control.md R417 to R419, 40_data_transfer.md R215, 46_undocumented.md R449: HLT
halts; WAIT, ESC and NOP do nothing; an unknown opcode takes one byte and does nothing else. The halt,
WAIT, ESC and the unknown opcode are decided in 92_eei_decisions.md D13 and D23 to D25; the kept queue
is the model's reading (log 23). -/
def Obligations.HaltAndNoEffect : Prop :=
  ∀ (s : State) (x y : BitVec 3) (w : RM Reg) (b : Byte),
    exec .hlt s = .next { s with halted := true } ∧ exec .wait s = .next s ∧
    exec (.esc x y w) s = .next s ∧ exec .nop s = .next s ∧
    exec (.unknownOpcode b) s = .next { s with ip := s.opIp + 1 } ∧
    (∀ rest, s.cfg.undoc = .noop → b ∈ undocumentedBytes →
      decode s.cfg (b :: rest) = .ok (.unknownOpcode b, rest)) ∧
    (∀ bytes c rest, decode s.cfg bytes = .ok (.unknownOpcode c, rest) →
      s.cfg.undoc = .noop ∧ c ∈ undocumentedBytes ∧ bytes = c :: rest)

/-! ## Rules over all instructions -/

/-- O59. 30_encoding.md R165, 46_undocumented.md R450: EXECUTE ends in a next state for every
instruction and state but those of R450's list, and in a refusal for those; it never ends in a fault.
The list is the spec's decision 92_eei_decisions.md D14; that `exec` refuses is the model's (log 19). -/
def Obligations.RefusedFormsAreThoseOfTheList : Prop :=
  ∀ (i : Instr) (s : State),
    ((∃ t, exec i s = .next t) ↔ (alwaysRefused i || sometimesRefused s i) = false) ∧
    ((∃ r, exec i s = .refused r) ↔ (alwaysRefused i || sometimesRefused s i) = true)

/-- O60. 10_state.md R33, R37, 20_memory.md R88, R102, R103, 45_processor_control.md R417: who writes what. A CS
or `ip` that an instruction changes leaves the queue empty; CS, the other segment registers, TF, IF, DF, the I/O
space and the halt are written by the named instructions only. MOV CS and POP CS are admitted by
92_eei_decisions.md D45, the halt is decided in D23; the I/O record is the model's (log 8). -/
def Obligations.WhoWritesWhat : Prop :=
  ∀ (i : Instr) (s t : State), exec i s = .next t →
    ((t.ip ≠ s.ip ∨ t.segs.cs ≠ s.segs.cs) → (∀ b, i ≠ .unknownOpcode b) → t.queue = []) ∧
    (t.segs.cs ≠ s.segs.cs → writesCs i = true) ∧
    (t.segs.es ≠ s.segs.es → i = .popEs ∨ (∃ e, i = .movSregEw .es e) ∨ ∃ g e, i = .lesGvMp g e) ∧
    (t.segs.ds ≠ s.segs.ds → i = .popDs ∨ (∃ e, i = .movSregEw .ds e) ∨ ∃ g e, i = .ldsGvMp g e) ∧
    (t.segs.ss ≠ s.segs.ss → i = .popSs ∨ ∃ e, i = .movSregEw .ss e) ∧
    (t.flags.DF ≠ s.flags.DF → i ∈ [.cld, .std, .popf, .iret]) ∧
    (t.flags.TF ≠ s.flags.TF → i ∈ [.popf, .iret] ∨ (canEnter i = true ∧ t.flags.TF = false)) ∧
    (t.flags.IF ≠ s.flags.IF → i ∈ [.sti, .cli, .popf, .iret] ∨ (canEnter i = true ∧ t.flags.IF = false)) ∧
    (t.ioLog ≠ s.ioLog → i ∈ [.inAlDx, .inAxDx, .outDxAl, .outDxAx] ∨
      ∃ p, i ∈ [.inAlIb p, .inAxIb p, .outIbAl p, .outIbAx p]) ∧
    (t.halted = true → s.halted = false → i = .hlt)
end

