-- ==== Sys2Proof/Laws/State.lean ====
section
/-! SUPPORT. One lemma per field for each plain update of the state, so that no proof unfolds a record
update. -/

namespace Sys2Proof.Machine.State

open Sys2Proof

variable (s : State)

@[simp] theorem setReg_regs (i : Reg) (v : Word) : (s.setReg i v).regs = s.regs.set i v := rfl
@[simp] theorem setReg_segs (i : Reg) (v : Word) : (s.setReg i v).segs = s.segs := rfl
@[simp] theorem setReg_ip (i : Reg) (v : Word) : (s.setReg i v).ip = s.ip := rfl
@[simp] theorem setReg_flags (i : Reg) (v : Word) : (s.setReg i v).flags = s.flags := rfl
@[simp] theorem setReg_queue (i : Reg) (v : Word) : (s.setReg i v).queue = s.queue := rfl
@[simp] theorem setReg_ovr (i : Reg) (v : Word) : (s.setReg i v).ovr = s.ovr := rfl
@[simp] theorem setReg_rep (i : Reg) (v : Word) : (s.setReg i v).rep = s.rep := rfl
@[simp] theorem setReg_lock (i : Reg) (v : Word) : (s.setReg i v).lock = s.lock := rfl
@[simp] theorem setReg_startIp (i : Reg) (v : Word) : (s.setReg i v).startIp = s.startIp := rfl
@[simp] theorem setReg_opIp (i : Reg) (v : Word) : (s.setReg i v).opIp = s.opIp := rfl
@[simp] theorem setReg_prefixing (i : Reg) (v : Word) : (s.setReg i v).prefixing = s.prefixing := rfl
@[simp] theorem setReg_repeating (i : Reg) (v : Word) : (s.setReg i v).repeating = s.repeating := rfl
@[simp] theorem setReg_trapPending (i : Reg) (v : Word) : (s.setReg i v).trapPending = s.trapPending := rfl
@[simp] theorem setReg_nmiPending (i : Reg) (v : Word) : (s.setReg i v).nmiPending = s.nmiPending := rfl
@[simp] theorem setReg_nmiEnable (i : Reg) (v : Word) : (s.setReg i v).nmiEnable = s.nmiEnable := rfl
@[simp] theorem setReg_noint (i : Reg) (v : Word) : (s.setReg i v).noint = s.noint := rfl
@[simp] theorem setReg_halted (i : Reg) (v : Word) : (s.setReg i v).halted = s.halted := rfl
@[simp] theorem setReg_mem (i : Reg) (v : Word) : (s.setReg i v).mem = s.mem := rfl
@[simp] theorem setReg_ctrl (i : Reg) (v : Word) : (s.setReg i v).ctrl = s.ctrl := rfl
@[simp] theorem setReg_acked (i : Reg) (v : Word) : (s.setReg i v).acked = s.acked := rfl
@[simp] theorem setReg_ioLog (i : Reg) (v : Word) : (s.setReg i v).ioLog = s.ioLog := rfl
@[simp] theorem setReg_cfg (i : Reg) (v : Word) : (s.setReg i v).cfg = s.cfg := rfl
@[simp] theorem setReg_draws (i : Reg) (v : Word) : (s.setReg i v).draws = s.draws := rfl
@[simp] theorem setReg_fills (i : Reg) (v : Word) : (s.setReg i v).fills = s.fills := rfl

@[simp] theorem setReg8_regs (i : Reg8) (v : Byte) : (s.setReg8 i v).regs = s.regs.set8 i v := rfl
@[simp] theorem setReg8_segs (i : Reg8) (v : Byte) : (s.setReg8 i v).segs = s.segs := rfl
@[simp] theorem setReg8_ip (i : Reg8) (v : Byte) : (s.setReg8 i v).ip = s.ip := rfl
@[simp] theorem setReg8_flags (i : Reg8) (v : Byte) : (s.setReg8 i v).flags = s.flags := rfl
@[simp] theorem setReg8_queue (i : Reg8) (v : Byte) : (s.setReg8 i v).queue = s.queue := rfl
@[simp] theorem setReg8_ovr (i : Reg8) (v : Byte) : (s.setReg8 i v).ovr = s.ovr := rfl
@[simp] theorem setReg8_rep (i : Reg8) (v : Byte) : (s.setReg8 i v).rep = s.rep := rfl
@[simp] theorem setReg8_lock (i : Reg8) (v : Byte) : (s.setReg8 i v).lock = s.lock := rfl
@[simp] theorem setReg8_startIp (i : Reg8) (v : Byte) : (s.setReg8 i v).startIp = s.startIp := rfl
@[simp] theorem setReg8_opIp (i : Reg8) (v : Byte) : (s.setReg8 i v).opIp = s.opIp := rfl
@[simp] theorem setReg8_prefixing (i : Reg8) (v : Byte) : (s.setReg8 i v).prefixing = s.prefixing := rfl
@[simp] theorem setReg8_repeating (i : Reg8) (v : Byte) : (s.setReg8 i v).repeating = s.repeating := rfl
@[simp] theorem setReg8_trapPending (i : Reg8) (v : Byte) : (s.setReg8 i v).trapPending = s.trapPending := rfl
@[simp] theorem setReg8_nmiPending (i : Reg8) (v : Byte) : (s.setReg8 i v).nmiPending = s.nmiPending := rfl
@[simp] theorem setReg8_nmiEnable (i : Reg8) (v : Byte) : (s.setReg8 i v).nmiEnable = s.nmiEnable := rfl
@[simp] theorem setReg8_noint (i : Reg8) (v : Byte) : (s.setReg8 i v).noint = s.noint := rfl
@[simp] theorem setReg8_halted (i : Reg8) (v : Byte) : (s.setReg8 i v).halted = s.halted := rfl
@[simp] theorem setReg8_mem (i : Reg8) (v : Byte) : (s.setReg8 i v).mem = s.mem := rfl
@[simp] theorem setReg8_ctrl (i : Reg8) (v : Byte) : (s.setReg8 i v).ctrl = s.ctrl := rfl
@[simp] theorem setReg8_acked (i : Reg8) (v : Byte) : (s.setReg8 i v).acked = s.acked := rfl
@[simp] theorem setReg8_ioLog (i : Reg8) (v : Byte) : (s.setReg8 i v).ioLog = s.ioLog := rfl
@[simp] theorem setReg8_cfg (i : Reg8) (v : Byte) : (s.setReg8 i v).cfg = s.cfg := rfl
@[simp] theorem setReg8_draws (i : Reg8) (v : Byte) : (s.setReg8 i v).draws = s.draws := rfl
@[simp] theorem setReg8_fills (i : Reg8) (v : Byte) : (s.setReg8 i v).fills = s.fills := rfl

@[simp] theorem setSeg_regs (i : SReg) (v : Word) : (s.setSeg i v).regs = s.regs := rfl
@[simp] theorem setSeg_segs (i : SReg) (v : Word) : (s.setSeg i v).segs = s.segs.set i v := rfl
@[simp] theorem setSeg_ip (i : SReg) (v : Word) : (s.setSeg i v).ip = s.ip := rfl
@[simp] theorem setSeg_flags (i : SReg) (v : Word) : (s.setSeg i v).flags = s.flags := rfl
@[simp] theorem setSeg_queue (i : SReg) (v : Word) : (s.setSeg i v).queue = s.queue := rfl
@[simp] theorem setSeg_ovr (i : SReg) (v : Word) : (s.setSeg i v).ovr = s.ovr := rfl
@[simp] theorem setSeg_rep (i : SReg) (v : Word) : (s.setSeg i v).rep = s.rep := rfl
@[simp] theorem setSeg_lock (i : SReg) (v : Word) : (s.setSeg i v).lock = s.lock := rfl
@[simp] theorem setSeg_startIp (i : SReg) (v : Word) : (s.setSeg i v).startIp = s.startIp := rfl
@[simp] theorem setSeg_opIp (i : SReg) (v : Word) : (s.setSeg i v).opIp = s.opIp := rfl
@[simp] theorem setSeg_prefixing (i : SReg) (v : Word) : (s.setSeg i v).prefixing = s.prefixing := rfl
@[simp] theorem setSeg_repeating (i : SReg) (v : Word) : (s.setSeg i v).repeating = s.repeating := rfl
@[simp] theorem setSeg_trapPending (i : SReg) (v : Word) : (s.setSeg i v).trapPending = s.trapPending := rfl
@[simp] theorem setSeg_nmiPending (i : SReg) (v : Word) : (s.setSeg i v).nmiPending = s.nmiPending := rfl
@[simp] theorem setSeg_nmiEnable (i : SReg) (v : Word) : (s.setSeg i v).nmiEnable = s.nmiEnable := rfl
@[simp] theorem setSeg_noint (i : SReg) (v : Word) : (s.setSeg i v).noint = s.noint := rfl
@[simp] theorem setSeg_halted (i : SReg) (v : Word) : (s.setSeg i v).halted = s.halted := rfl
@[simp] theorem setSeg_mem (i : SReg) (v : Word) : (s.setSeg i v).mem = s.mem := rfl
@[simp] theorem setSeg_ctrl (i : SReg) (v : Word) : (s.setSeg i v).ctrl = s.ctrl := rfl
@[simp] theorem setSeg_acked (i : SReg) (v : Word) : (s.setSeg i v).acked = s.acked := rfl
@[simp] theorem setSeg_ioLog (i : SReg) (v : Word) : (s.setSeg i v).ioLog = s.ioLog := rfl
@[simp] theorem setSeg_cfg (i : SReg) (v : Word) : (s.setSeg i v).cfg = s.cfg := rfl
@[simp] theorem setSeg_draws (i : SReg) (v : Word) : (s.setSeg i v).draws = s.draws := rfl
@[simp] theorem setSeg_fills (i : SReg) (v : Word) : (s.setSeg i v).fills = s.fills := rfl

@[simp] theorem setFlags_regs (f : Flags) : (s.setFlags f).regs = s.regs := rfl
@[simp] theorem setFlags_segs (f : Flags) : (s.setFlags f).segs = s.segs := rfl
@[simp] theorem setFlags_ip (f : Flags) : (s.setFlags f).ip = s.ip := rfl
@[simp] theorem setFlags_flags (f : Flags) : (s.setFlags f).flags = f := rfl
@[simp] theorem setFlags_queue (f : Flags) : (s.setFlags f).queue = s.queue := rfl
@[simp] theorem setFlags_ovr (f : Flags) : (s.setFlags f).ovr = s.ovr := rfl
@[simp] theorem setFlags_rep (f : Flags) : (s.setFlags f).rep = s.rep := rfl
@[simp] theorem setFlags_lock (f : Flags) : (s.setFlags f).lock = s.lock := rfl
@[simp] theorem setFlags_startIp (f : Flags) : (s.setFlags f).startIp = s.startIp := rfl
@[simp] theorem setFlags_opIp (f : Flags) : (s.setFlags f).opIp = s.opIp := rfl
@[simp] theorem setFlags_prefixing (f : Flags) : (s.setFlags f).prefixing = s.prefixing := rfl
@[simp] theorem setFlags_repeating (f : Flags) : (s.setFlags f).repeating = s.repeating := rfl
@[simp] theorem setFlags_trapPending (f : Flags) : (s.setFlags f).trapPending = s.trapPending := rfl
@[simp] theorem setFlags_nmiPending (f : Flags) : (s.setFlags f).nmiPending = s.nmiPending := rfl
@[simp] theorem setFlags_nmiEnable (f : Flags) : (s.setFlags f).nmiEnable = s.nmiEnable := rfl
@[simp] theorem setFlags_noint (f : Flags) : (s.setFlags f).noint = s.noint := rfl
@[simp] theorem setFlags_halted (f : Flags) : (s.setFlags f).halted = s.halted := rfl
@[simp] theorem setFlags_mem (f : Flags) : (s.setFlags f).mem = s.mem := rfl
@[simp] theorem setFlags_ctrl (f : Flags) : (s.setFlags f).ctrl = s.ctrl := rfl
@[simp] theorem setFlags_acked (f : Flags) : (s.setFlags f).acked = s.acked := rfl
@[simp] theorem setFlags_ioLog (f : Flags) : (s.setFlags f).ioLog = s.ioLog := rfl
@[simp] theorem setFlags_cfg (f : Flags) : (s.setFlags f).cfg = s.cfg := rfl
@[simp] theorem setFlags_draws (f : Flags) : (s.setFlags f).draws = s.draws := rfl
@[simp] theorem setFlags_fills (f : Flags) : (s.setFlags f).fills = s.fills := rfl

@[simp] theorem advance_regs (k : Nat) : (s.advance k).regs = s.regs := rfl
@[simp] theorem advance_segs (k : Nat) : (s.advance k).segs = s.segs := rfl
@[simp] theorem advance_ip (k : Nat) : (s.advance k).ip = s.ip := rfl
@[simp] theorem advance_flags (k : Nat) : (s.advance k).flags = s.flags := rfl
@[simp] theorem advance_queue (k : Nat) : (s.advance k).queue = s.queue := rfl
@[simp] theorem advance_ovr (k : Nat) : (s.advance k).ovr = s.ovr := rfl
@[simp] theorem advance_rep (k : Nat) : (s.advance k).rep = s.rep := rfl
@[simp] theorem advance_lock (k : Nat) : (s.advance k).lock = s.lock := rfl
@[simp] theorem advance_startIp (k : Nat) : (s.advance k).startIp = s.startIp := rfl
@[simp] theorem advance_opIp (k : Nat) : (s.advance k).opIp = s.opIp := rfl
@[simp] theorem advance_prefixing (k : Nat) : (s.advance k).prefixing = s.prefixing := rfl
@[simp] theorem advance_repeating (k : Nat) : (s.advance k).repeating = s.repeating := rfl
@[simp] theorem advance_trapPending (k : Nat) : (s.advance k).trapPending = s.trapPending := rfl
@[simp] theorem advance_nmiPending (k : Nat) : (s.advance k).nmiPending = s.nmiPending := rfl
@[simp] theorem advance_nmiEnable (k : Nat) : (s.advance k).nmiEnable = s.nmiEnable := rfl
@[simp] theorem advance_noint (k : Nat) : (s.advance k).noint = s.noint := rfl
@[simp] theorem advance_halted (k : Nat) : (s.advance k).halted = s.halted := rfl
@[simp] theorem advance_mem (k : Nat) : (s.advance k).mem = s.mem := rfl
@[simp] theorem advance_ctrl (k : Nat) : (s.advance k).ctrl = s.ctrl := rfl
@[simp] theorem advance_acked (k : Nat) : (s.advance k).acked = s.acked := rfl
@[simp] theorem advance_ioLog (k : Nat) : (s.advance k).ioLog = s.ioLog := rfl
@[simp] theorem advance_cfg (k : Nat) : (s.advance k).cfg = s.cfg := rfl
@[simp] theorem advance_draws (k : Nat) : (s.advance k).draws = s.draws + k := rfl
@[simp] theorem advance_fills (k : Nat) : (s.advance k).fills = s.fills := rfl

@[simp] theorem flush_regs : (s.flush).regs = s.regs := rfl
@[simp] theorem flush_segs : (s.flush).segs = s.segs := rfl
@[simp] theorem flush_ip : (s.flush).ip = s.ip := rfl
@[simp] theorem flush_flags : (s.flush).flags = s.flags := rfl
@[simp] theorem flush_queue : (s.flush).queue = [] := rfl
@[simp] theorem flush_ovr : (s.flush).ovr = s.ovr := rfl
@[simp] theorem flush_rep : (s.flush).rep = s.rep := rfl
@[simp] theorem flush_lock : (s.flush).lock = s.lock := rfl
@[simp] theorem flush_startIp : (s.flush).startIp = s.startIp := rfl
@[simp] theorem flush_opIp : (s.flush).opIp = s.opIp := rfl
@[simp] theorem flush_prefixing : (s.flush).prefixing = s.prefixing := rfl
@[simp] theorem flush_repeating : (s.flush).repeating = s.repeating := rfl
@[simp] theorem flush_trapPending : (s.flush).trapPending = s.trapPending := rfl
@[simp] theorem flush_nmiPending : (s.flush).nmiPending = s.nmiPending := rfl
@[simp] theorem flush_nmiEnable : (s.flush).nmiEnable = s.nmiEnable := rfl
@[simp] theorem flush_noint : (s.flush).noint = s.noint := rfl
@[simp] theorem flush_halted : (s.flush).halted = s.halted := rfl
@[simp] theorem flush_mem : (s.flush).mem = s.mem := rfl
@[simp] theorem flush_ctrl : (s.flush).ctrl = s.ctrl := rfl
@[simp] theorem flush_acked : (s.flush).acked = s.acked := rfl
@[simp] theorem flush_ioLog : (s.flush).ioLog = s.ioLog := rfl
@[simp] theorem flush_cfg : (s.flush).cfg = s.cfg := rfl
@[simp] theorem flush_draws : (s.flush).draws = s.draws := rfl
@[simp] theorem flush_fills : (s.flush).fills = s.fills := rfl

@[simp] theorem jump_regs (t : Word) : (s.jump t).regs = s.regs := rfl
@[simp] theorem jump_segs (t : Word) : (s.jump t).segs = s.segs := rfl
@[simp] theorem jump_ip (t : Word) : (s.jump t).ip = t := rfl
@[simp] theorem jump_flags (t : Word) : (s.jump t).flags = s.flags := rfl
@[simp] theorem jump_queue (t : Word) : (s.jump t).queue = [] := rfl
@[simp] theorem jump_ovr (t : Word) : (s.jump t).ovr = s.ovr := rfl
@[simp] theorem jump_rep (t : Word) : (s.jump t).rep = s.rep := rfl
@[simp] theorem jump_lock (t : Word) : (s.jump t).lock = s.lock := rfl
@[simp] theorem jump_startIp (t : Word) : (s.jump t).startIp = s.startIp := rfl
@[simp] theorem jump_opIp (t : Word) : (s.jump t).opIp = s.opIp := rfl
@[simp] theorem jump_prefixing (t : Word) : (s.jump t).prefixing = s.prefixing := rfl
@[simp] theorem jump_repeating (t : Word) : (s.jump t).repeating = s.repeating := rfl
@[simp] theorem jump_trapPending (t : Word) : (s.jump t).trapPending = s.trapPending := rfl
@[simp] theorem jump_nmiPending (t : Word) : (s.jump t).nmiPending = s.nmiPending := rfl
@[simp] theorem jump_nmiEnable (t : Word) : (s.jump t).nmiEnable = s.nmiEnable := rfl
@[simp] theorem jump_noint (t : Word) : (s.jump t).noint = s.noint := rfl
@[simp] theorem jump_halted (t : Word) : (s.jump t).halted = s.halted := rfl
@[simp] theorem jump_mem (t : Word) : (s.jump t).mem = s.mem := rfl
@[simp] theorem jump_ctrl (t : Word) : (s.jump t).ctrl = s.ctrl := rfl
@[simp] theorem jump_acked (t : Word) : (s.jump t).acked = s.acked := rfl
@[simp] theorem jump_ioLog (t : Word) : (s.jump t).ioLog = s.ioLog := rfl
@[simp] theorem jump_cfg (t : Word) : (s.jump t).cfg = s.cfg := rfl
@[simp] theorem jump_draws (t : Word) : (s.jump t).draws = s.draws := rfl
@[simp] theorem jump_fills (t : Word) : (s.jump t).fills = s.fills := rfl

@[simp] theorem farJump_regs (sg off : Word) : (s.farJump sg off).regs = s.regs := rfl
@[simp] theorem farJump_segs (sg off : Word) : (s.farJump sg off).segs = s.segs.set .cs sg := rfl
@[simp] theorem farJump_ip (sg off : Word) : (s.farJump sg off).ip = off := rfl
@[simp] theorem farJump_flags (sg off : Word) : (s.farJump sg off).flags = s.flags := rfl
@[simp] theorem farJump_queue (sg off : Word) : (s.farJump sg off).queue = [] := rfl
@[simp] theorem farJump_ovr (sg off : Word) : (s.farJump sg off).ovr = s.ovr := rfl
@[simp] theorem farJump_rep (sg off : Word) : (s.farJump sg off).rep = s.rep := rfl
@[simp] theorem farJump_lock (sg off : Word) : (s.farJump sg off).lock = s.lock := rfl
@[simp] theorem farJump_startIp (sg off : Word) : (s.farJump sg off).startIp = s.startIp := rfl
@[simp] theorem farJump_opIp (sg off : Word) : (s.farJump sg off).opIp = s.opIp := rfl
@[simp] theorem farJump_prefixing (sg off : Word) : (s.farJump sg off).prefixing = s.prefixing := rfl
@[simp] theorem farJump_repeating (sg off : Word) : (s.farJump sg off).repeating = s.repeating := rfl
@[simp] theorem farJump_trapPending (sg off : Word) : (s.farJump sg off).trapPending = s.trapPending := rfl
@[simp] theorem farJump_nmiPending (sg off : Word) : (s.farJump sg off).nmiPending = s.nmiPending := rfl
@[simp] theorem farJump_nmiEnable (sg off : Word) : (s.farJump sg off).nmiEnable = s.nmiEnable := rfl
@[simp] theorem farJump_noint (sg off : Word) : (s.farJump sg off).noint = s.noint := rfl
@[simp] theorem farJump_halted (sg off : Word) : (s.farJump sg off).halted = s.halted := rfl
@[simp] theorem farJump_mem (sg off : Word) : (s.farJump sg off).mem = s.mem := rfl
@[simp] theorem farJump_ctrl (sg off : Word) : (s.farJump sg off).ctrl = s.ctrl := rfl
@[simp] theorem farJump_acked (sg off : Word) : (s.farJump sg off).acked = s.acked := rfl
@[simp] theorem farJump_ioLog (sg off : Word) : (s.farJump sg off).ioLog = s.ioLog := rfl
@[simp] theorem farJump_cfg (sg off : Word) : (s.farJump sg off).cfg = s.cfg := rfl
@[simp] theorem farJump_draws (sg off : Word) : (s.farJump sg off).draws = s.draws := rfl
@[simp] theorem farJump_fills (sg off : Word) : (s.farJump sg off).fills = s.fills := rfl

@[simp] theorem release_regs (n : Word) : (s.release n).regs = s.regs.set .sp (s.regs.sp + n) := rfl
@[simp] theorem release_segs (n : Word) : (s.release n).segs = s.segs := rfl
@[simp] theorem release_ip (n : Word) : (s.release n).ip = s.ip := rfl
@[simp] theorem release_flags (n : Word) : (s.release n).flags = s.flags := rfl
@[simp] theorem release_queue (n : Word) : (s.release n).queue = s.queue := rfl
@[simp] theorem release_ovr (n : Word) : (s.release n).ovr = s.ovr := rfl
@[simp] theorem release_rep (n : Word) : (s.release n).rep = s.rep := rfl
@[simp] theorem release_lock (n : Word) : (s.release n).lock = s.lock := rfl
@[simp] theorem release_startIp (n : Word) : (s.release n).startIp = s.startIp := rfl
@[simp] theorem release_opIp (n : Word) : (s.release n).opIp = s.opIp := rfl
@[simp] theorem release_prefixing (n : Word) : (s.release n).prefixing = s.prefixing := rfl
@[simp] theorem release_repeating (n : Word) : (s.release n).repeating = s.repeating := rfl
@[simp] theorem release_trapPending (n : Word) : (s.release n).trapPending = s.trapPending := rfl
@[simp] theorem release_nmiPending (n : Word) : (s.release n).nmiPending = s.nmiPending := rfl
@[simp] theorem release_nmiEnable (n : Word) : (s.release n).nmiEnable = s.nmiEnable := rfl
@[simp] theorem release_noint (n : Word) : (s.release n).noint = s.noint := rfl
@[simp] theorem release_halted (n : Word) : (s.release n).halted = s.halted := rfl
@[simp] theorem release_mem (n : Word) : (s.release n).mem = s.mem := rfl
@[simp] theorem release_ctrl (n : Word) : (s.release n).ctrl = s.ctrl := rfl
@[simp] theorem release_acked (n : Word) : (s.release n).acked = s.acked := rfl
@[simp] theorem release_ioLog (n : Word) : (s.release n).ioLog = s.ioLog := rfl
@[simp] theorem release_cfg (n : Word) : (s.release n).cfg = s.cfg := rfl
@[simp] theorem release_draws (n : Word) : (s.release n).draws = s.draws := rfl
@[simp] theorem release_fills (n : Word) : (s.release n).fills = s.fills := rfl

end Sys2Proof.Machine.State
end

