-- ==== Sys2Proof/Laws/Memory.lean ====
section
/-! SUPPORT. Memory as a list in canonical form: a read after a write, and that every operation keeps the
form. -/

namespace Sys2Proof.Machine

open Sys2Proof

namespace Memory

theorem read_erase (m : Memory) (x y : Nat) :
    Memory.read (m.erase x) y = if y = x then unlistedByte else m.read y := by
  induction m with
  | nil => simp [Memory.erase, Memory.read]
  | cons c m ih =>
    obtain ⟨a, b⟩ := c
    simp only [Memory.erase] at ih ⊢
    by_cases h : a = x
    · subst h
      simp only [List.filter_cons, bne_self_eq_false, Bool.false_eq_true, if_false, ih, Memory.read]
      split <;> simp_all
    · simp only [List.filter_cons, bne_iff_ne, ne_eq, h, not_false_eq_true, if_true, Memory.read, ih]
      split
      · next hy => rw [if_neg (by omega)]
      · rfl

theorem read_insert_self (m : Memory) (x : Nat) (v : Byte) (h : ∀ c ∈ m, c.1 ≠ x) :
    Memory.read (m.insert x v) x = v := by
  induction m with
  | nil => simp [Memory.insert, Memory.read]
  | cons c m ih =>
    obtain ⟨a, b⟩ := c
    have ha : a ≠ x := h (a, b) (by simp)
    simp only [Memory.insert]
    split
    · simp [Memory.read]
    · simp only [Memory.read, if_neg (Ne.symm ha)]
      exact ih fun c hc => h c (by simp [hc])

theorem read_insert_other (m : Memory) (x y : Nat) (v : Byte) (h : y ≠ x) :
    Memory.read (m.insert x v) y = m.read y := by
  induction m with
  | nil => simp [Memory.insert, Memory.read, h]
  | cons c m ih =>
    obtain ⟨a, b⟩ := c
    simp only [Memory.insert]
    split
    · simp [Memory.read, h]
    · simp only [Memory.read, ih]

theorem erase_ne (m : Memory) (x : Nat) : ∀ c ∈ m.erase x, c.1 ≠ x := by
  intro c hc
  simpa using (List.mem_filter.mp hc).2

/-- A read after a write, of every memory, canonical or not. -/
theorem read_write (m : Memory) (x y : Nat) (v : Byte) :
    Memory.read (m.write x v) y = if y = x then v else m.read y := by
  unfold Memory.write
  by_cases hv : v = unlistedByte
  · rw [if_pos hv, read_erase, hv]
  · rw [if_neg hv]
    by_cases hy : y = x
    · rw [if_pos hy, hy, read_insert_self _ _ _ (erase_ne m x)]
    · rw [if_neg hy, read_insert_other _ _ _ _ hy, read_erase, if_neg hy]

theorem wfFrom_mono {lo lo' : Nat} (h : lo' ≤ lo) (m : Memory) (hm : m.wfFrom lo = true) :
    m.wfFrom lo' = true := by
  cases m with
  | nil => rfl
  | cons c m =>
    obtain ⟨a, b⟩ := c
    simp only [Memory.wfFrom, Bool.and_eq_true, decide_eq_true_eq] at hm ⊢
    exact ⟨⟨⟨by omega, hm.1.1.2⟩, hm.1.2⟩, hm.2⟩

theorem wfFrom_erase (m : Memory) (x lo : Nat) (h : m.wfFrom lo = true) :
    Memory.wfFrom lo (m.erase x) = true := by
  induction m generalizing lo with
  | nil => rfl
  | cons c m ih =>
    obtain ⟨a, b⟩ := c
    simp only [Memory.wfFrom, Bool.and_eq_true, decide_eq_true_eq] at h
    have hm := ih (a + 1) h.2
    simp only [Memory.erase] at hm ⊢
    rw [List.filter_cons]
    split
    · simp only [Memory.wfFrom, Bool.and_eq_true, decide_eq_true_eq]
      exact ⟨h.1, hm⟩
    · exact wfFrom_mono (by omega) _ hm

theorem wfFrom_insert (m : Memory) (x : Nat) (v : Byte) (lo : Nat) (h : m.wfFrom lo = true)
    (hx : lo ≤ x) (hx' : x < 2 ^ 20) (hne : ∀ c ∈ m, c.1 ≠ x) (hv : v ≠ unlistedByte) :
    Memory.wfFrom lo (m.insert x v) = true := by
  induction m generalizing lo with
  | nil => simpa [Memory.insert, Memory.wfFrom, hx, hv] using hx'
  | cons c m ih =>
    obtain ⟨a, b⟩ := c
    have ha : a ≠ x := hne (a, b) (by simp)
    simp only [Memory.wfFrom, Bool.and_eq_true, decide_eq_true_eq] at h
    simp only [Memory.insert]
    split
    · next hlt =>
      simp only [Memory.wfFrom, Bool.and_eq_true, decide_eq_true_eq, bne_iff_ne]
      exact ⟨⟨⟨hx, hx'⟩, hv⟩, ⟨⟨by omega, h.1.1.2⟩, by simpa using h.1.2⟩, h.2⟩
    · next hge =>
      simp only [Memory.wfFrom, Bool.and_eq_true, decide_eq_true_eq]
      refine ⟨h.1, ih (a + 1) h.2 ?_ fun c hc => hne c (by simp [hc])⟩
      have := Nat.lt_of_le_of_ne (Nat.le_of_not_lt hge) ha
      exact this

/-- A write at an address of the machine keeps the canonical form. -/
theorem wf_write (m : Memory) (x : Nat) (v : Byte) (h : m.wf = true) (hx : x < 2 ^ 20) :
    Memory.wf (m.write x v) = true := by
  unfold Memory.wf Memory.write at *
  split
  · exact wfFrom_erase m x 0 h
  · next hv =>
    exact wfFrom_insert _ x v 0 (wfFrom_erase m x 0 h) (by omega) hx (erase_ne m x) hv

end Memory

end Sys2Proof.Machine
end

