-- ==== Sys2Proof/Laws/Ops.lean ====
section
/-! SUPPORT. What each shared operation can do, said once: the register file, physical reads after writes,
the fields that the bus unit and a store may change, the stack, and the vectored transfer. -/

namespace Sys2Proof.Machine

open Sys2Proof

/-! ## Bytes and words -/

@[simp] theorem loByte_mkWord (h l : Byte) : loByte (mkWord h l) = l := by
  unfold loByte mkWord
  apply BitVec.eq_of_getLsbD_eq
  intro i hi
  rw [BitVec.getLsbD_setWidth]
  erw [BitVec.getLsbD_append]
  simp [hi]

@[simp] theorem hiByte_mkWord (h l : Byte) : hiByte (mkWord h l) = h := by
  unfold hiByte mkWord
  apply BitVec.eq_of_getLsbD_eq
  intro i hi
  rw [BitVec.getLsbD_setWidth, BitVec.getLsbD_ushiftRight]
  erw [BitVec.getLsbD_append]
  simp [hi]

@[simp] theorem mkWord_hi_lo (w : Word) : mkWord (hiByte w) (loByte w) = w := by
  unfold loByte hiByte mkWord
  ext i hi
  simp only [BitVec.getElem_append, BitVec.getElem_setWidth, BitVec.getLsbD_ushiftRight]
  split
  · simp [BitVec.getLsbD_eq_getElem hi]
  · rw [show 8 + (i - 8) = i by omega, BitVec.getLsbD_eq_getElem hi]

/-! ## Registers -/

theorem Regs.get_set (r : Regs) (i j : Reg) (v : Word) :
    (r.set i v).get j = if j = i then v else r.get j := by
  cases i <;> cases j <;> rfl

@[simp] theorem Regs.get_set_self (r : Regs) (i : Reg) (v : Word) : (r.set i v).get i = v := by
  cases i <;> rfl

theorem Regs.get8_set8 (r : Regs) (i j : Reg8) (v : Byte) :
    (r.set8 i v).get8 j = if j = i then v else r.get8 j := by
  cases i <;> cases j <;> simp [Regs.set8, Regs.get8]

@[simp] theorem Regs.get8_set8_self (r : Regs) (i : Reg8) (v : Byte) : (r.set8 i v).get8 i = v := by
  cases i <;> simp [Regs.set8, Regs.get8]

theorem Segs.get_set (g : Segs) (i j : SReg) (v : Word) :
    (g.set i v).get j = if j = i then v else g.get j := by
  cases i <;> cases j <;> rfl

namespace State

variable (s : State)

/-! ## Physical memory -/

theorem physRead_physWrite (p q : PhysAddr) (b : Byte) :
    (s.physWrite p b).physRead q =
      if isUnmapped s.cfg q.toNat then s.cfg.openBus else if q = p then b else s.physRead q := by
  unfold physRead physWrite
  by_cases hp : isUnmapped s.cfg p.toNat = true <;> by_cases hq : isUnmapped s.cfg q.toNat = true
  · simp [hp, hq]
  · have : q ≠ p := fun h => hq (h ▸ hp)
    simp [hp, hq, this]
  · simp [hp, hq]
  · simp only [hp, hq, Bool.false_eq_true, if_false, Memory.read_write, BitVec.toNat_inj]

/-- A physical write changes memory only. -/
theorem physWrite_eq (p : PhysAddr) (b : Byte) :
    s.physWrite p b = { s with mem := (s.physWrite p b).mem } := by
  unfold physWrite
  split <;> rfl

theorem physWrite_wf (p : PhysAddr) (b : Byte) (h : s.mem.wf = true) : (s.physWrite p b).mem.wf = true := by
  unfold physWrite
  split
  · exact h
  · exact Memory.wf_write _ _ _ h p.isLt

/-! ## The bus unit -/

/-- The bus unit appends to the queue and changes nothing else. -/
theorem fillBy_eq (n : Nat) :
    ∃ q, fillBy n s = { s with queue := s.queue ++ q } ∧
      (s.queue.length ≤ queueCap s.cfg → (s.queue ++ q).length ≤ queueCap s.cfg) := by
  induction n generalizing s with
  | zero => exact ⟨[], by simp [fillBy], by simp⟩
  | succ n ih =>
    simp only [fillBy]
    split
    · next h =>
      obtain ⟨q, hq, hc⟩ := ih
        { s with queue := s.queue ++ [s.physRead (phys s.segs.cs (s.ip + BitVec.ofNat 16 s.queue.length))] }
      refine ⟨_ :: q, by rw [hq]; simp; rfl, fun _ => ?_⟩
      have := hc (by simp; omega)
      simpa using this
    · exact ⟨[], by simp, by simp⟩

/-- A fill point appends to the queue, within its capacity, and takes one entry of the schedule. -/
theorem fill_eq :
    ∃ q, s.fill = { s with queue := s.queue ++ q, fills := s.fills.tail } ∧
      (s.queue.length ≤ queueCap s.cfg → (s.queue ++ q).length ≤ queueCap s.cfg) := by
  obtain ⟨q, hq, hc⟩ := s.fillBy_eq s.fills.head
  exact ⟨q, by rw [fill, hq], hc⟩

/-- A fill point changes the queue and the schedule only. -/
theorem fill_only : s.fill = { s with queue := s.fill.queue, fills := s.fills.tail } := rfl

/-- A byte store changes memory, the queue and the schedule only. -/
theorem writeByte_only (sg off : Word) (v : Byte) :
    s.writeByte sg off v =
      { s with
        mem := (s.physWrite (phys sg off) v).mem
        queue := (s.writeByte sg off v).queue
        fills := s.fills.tail } := by
  unfold writeByte
  rw [fill_only]
  rw [physWrite_eq]

/-- A word store changes memory, the queue and the schedule only. -/
theorem writeWord_only (sg off v : Word) :
    s.writeWord sg off v =
      { s with
        mem := (s.writeWord sg off v).mem
        queue := (s.writeWord sg off v).queue
        fills := s.fills.tail.tail } := by
  unfold writeWord
  rw [writeByte_only, writeByte_only]

/-- A push changes SP, memory, the queue and the schedule only. -/
theorem push16_only (v : Word) :
    s.push16 v =
      { s with
        regs := s.regs.set .sp (s.regs.sp - 2#16)
        mem := (s.push16 v).mem
        queue := (s.push16 v).queue
        fills := s.fills.tail.tail } := by
  unfold push16
  rw [writeWord_only]
  rfl

/-! ## The fields after a fill point -/

@[simp] theorem fill_regs : s.fill.regs = s.regs := by rw [fill_only]
@[simp] theorem fill_segs : s.fill.segs = s.segs := by rw [fill_only]
@[simp] theorem fill_ip : s.fill.ip = s.ip := by rw [fill_only]
@[simp] theorem fill_flags : s.fill.flags = s.flags := by rw [fill_only]
@[simp] theorem fill_ovr : s.fill.ovr = s.ovr := by rw [fill_only]
@[simp] theorem fill_rep : s.fill.rep = s.rep := by rw [fill_only]
@[simp] theorem fill_lock : s.fill.lock = s.lock := by rw [fill_only]
@[simp] theorem fill_startIp : s.fill.startIp = s.startIp := by rw [fill_only]
@[simp] theorem fill_opIp : s.fill.opIp = s.opIp := by rw [fill_only]
@[simp] theorem fill_prefixing : s.fill.prefixing = s.prefixing := by rw [fill_only]
@[simp] theorem fill_repeating : s.fill.repeating = s.repeating := by rw [fill_only]
@[simp] theorem fill_trapPending : s.fill.trapPending = s.trapPending := by rw [fill_only]
@[simp] theorem fill_nmiPending : s.fill.nmiPending = s.nmiPending := by rw [fill_only]
@[simp] theorem fill_nmiEnable : s.fill.nmiEnable = s.nmiEnable := by rw [fill_only]
@[simp] theorem fill_noint : s.fill.noint = s.noint := by rw [fill_only]
@[simp] theorem fill_halted : s.fill.halted = s.halted := by rw [fill_only]
@[simp] theorem fill_mem : s.fill.mem = s.mem := by rw [fill_only]
@[simp] theorem fill_ctrl : s.fill.ctrl = s.ctrl := by rw [fill_only]
@[simp] theorem fill_acked : s.fill.acked = s.acked := by rw [fill_only]
@[simp] theorem fill_ioLog : s.fill.ioLog = s.ioLog := by rw [fill_only]
@[simp] theorem fill_cfg : s.fill.cfg = s.cfg := by rw [fill_only]
@[simp] theorem fill_draws : s.fill.draws = s.draws := by rw [fill_only]
@[simp] theorem fill_fills : s.fill.fills = s.fills.tail := by rw [fill_only]

/-! ## The fields after a physical write -/

@[simp] theorem physWrite_regs (p : PhysAddr) (b : Byte) : (s.physWrite p b).regs = s.regs := by rw [physWrite_eq]
@[simp] theorem physWrite_segs (p : PhysAddr) (b : Byte) : (s.physWrite p b).segs = s.segs := by rw [physWrite_eq]
@[simp] theorem physWrite_ip (p : PhysAddr) (b : Byte) : (s.physWrite p b).ip = s.ip := by rw [physWrite_eq]
@[simp] theorem physWrite_flags (p : PhysAddr) (b : Byte) : (s.physWrite p b).flags = s.flags := by rw [physWrite_eq]
@[simp] theorem physWrite_queue (p : PhysAddr) (b : Byte) : (s.physWrite p b).queue = s.queue := by rw [physWrite_eq]
@[simp] theorem physWrite_ovr (p : PhysAddr) (b : Byte) : (s.physWrite p b).ovr = s.ovr := by rw [physWrite_eq]
@[simp] theorem physWrite_rep (p : PhysAddr) (b : Byte) : (s.physWrite p b).rep = s.rep := by rw [physWrite_eq]
@[simp] theorem physWrite_lock (p : PhysAddr) (b : Byte) : (s.physWrite p b).lock = s.lock := by rw [physWrite_eq]
@[simp] theorem physWrite_startIp (p : PhysAddr) (b : Byte) : (s.physWrite p b).startIp = s.startIp := by rw [physWrite_eq]
@[simp] theorem physWrite_opIp (p : PhysAddr) (b : Byte) : (s.physWrite p b).opIp = s.opIp := by rw [physWrite_eq]
@[simp] theorem physWrite_prefixing (p : PhysAddr) (b : Byte) : (s.physWrite p b).prefixing = s.prefixing := by rw [physWrite_eq]
@[simp] theorem physWrite_repeating (p : PhysAddr) (b : Byte) : (s.physWrite p b).repeating = s.repeating := by rw [physWrite_eq]
@[simp] theorem physWrite_trapPending (p : PhysAddr) (b : Byte) : (s.physWrite p b).trapPending = s.trapPending := by rw [physWrite_eq]
@[simp] theorem physWrite_nmiPending (p : PhysAddr) (b : Byte) : (s.physWrite p b).nmiPending = s.nmiPending := by rw [physWrite_eq]
@[simp] theorem physWrite_nmiEnable (p : PhysAddr) (b : Byte) : (s.physWrite p b).nmiEnable = s.nmiEnable := by rw [physWrite_eq]
@[simp] theorem physWrite_noint (p : PhysAddr) (b : Byte) : (s.physWrite p b).noint = s.noint := by rw [physWrite_eq]
@[simp] theorem physWrite_halted (p : PhysAddr) (b : Byte) : (s.physWrite p b).halted = s.halted := by rw [physWrite_eq]
@[simp] theorem physWrite_ctrl (p : PhysAddr) (b : Byte) : (s.physWrite p b).ctrl = s.ctrl := by rw [physWrite_eq]
@[simp] theorem physWrite_acked (p : PhysAddr) (b : Byte) : (s.physWrite p b).acked = s.acked := by rw [physWrite_eq]
@[simp] theorem physWrite_ioLog (p : PhysAddr) (b : Byte) : (s.physWrite p b).ioLog = s.ioLog := by rw [physWrite_eq]
@[simp] theorem physWrite_cfg (p : PhysAddr) (b : Byte) : (s.physWrite p b).cfg = s.cfg := by rw [physWrite_eq]
@[simp] theorem physWrite_draws (p : PhysAddr) (b : Byte) : (s.physWrite p b).draws = s.draws := by rw [physWrite_eq]
@[simp] theorem physWrite_fills (p : PhysAddr) (b : Byte) : (s.physWrite p b).fills = s.fills := by rw [physWrite_eq]

/-! ## The fields after a byte store -/

@[simp] theorem writeByte_regs (sg off : Word) (v : Byte) : (s.writeByte sg off v).regs = s.regs := by rw [writeByte_only]
@[simp] theorem writeByte_segs (sg off : Word) (v : Byte) : (s.writeByte sg off v).segs = s.segs := by rw [writeByte_only]
@[simp] theorem writeByte_ip (sg off : Word) (v : Byte) : (s.writeByte sg off v).ip = s.ip := by rw [writeByte_only]
@[simp] theorem writeByte_flags (sg off : Word) (v : Byte) : (s.writeByte sg off v).flags = s.flags := by rw [writeByte_only]
@[simp] theorem writeByte_ovr (sg off : Word) (v : Byte) : (s.writeByte sg off v).ovr = s.ovr := by rw [writeByte_only]
@[simp] theorem writeByte_rep (sg off : Word) (v : Byte) : (s.writeByte sg off v).rep = s.rep := by rw [writeByte_only]
@[simp] theorem writeByte_lock (sg off : Word) (v : Byte) : (s.writeByte sg off v).lock = s.lock := by rw [writeByte_only]
@[simp] theorem writeByte_startIp (sg off : Word) (v : Byte) : (s.writeByte sg off v).startIp = s.startIp := by rw [writeByte_only]
@[simp] theorem writeByte_opIp (sg off : Word) (v : Byte) : (s.writeByte sg off v).opIp = s.opIp := by rw [writeByte_only]
@[simp] theorem writeByte_prefixing (sg off : Word) (v : Byte) : (s.writeByte sg off v).prefixing = s.prefixing := by rw [writeByte_only]
@[simp] theorem writeByte_repeating (sg off : Word) (v : Byte) : (s.writeByte sg off v).repeating = s.repeating := by rw [writeByte_only]
@[simp] theorem writeByte_trapPending (sg off : Word) (v : Byte) : (s.writeByte sg off v).trapPending = s.trapPending := by rw [writeByte_only]
@[simp] theorem writeByte_nmiPending (sg off : Word) (v : Byte) : (s.writeByte sg off v).nmiPending = s.nmiPending := by rw [writeByte_only]
@[simp] theorem writeByte_nmiEnable (sg off : Word) (v : Byte) : (s.writeByte sg off v).nmiEnable = s.nmiEnable := by rw [writeByte_only]
@[simp] theorem writeByte_noint (sg off : Word) (v : Byte) : (s.writeByte sg off v).noint = s.noint := by rw [writeByte_only]
@[simp] theorem writeByte_halted (sg off : Word) (v : Byte) : (s.writeByte sg off v).halted = s.halted := by rw [writeByte_only]
@[simp] theorem writeByte_ctrl (sg off : Word) (v : Byte) : (s.writeByte sg off v).ctrl = s.ctrl := by rw [writeByte_only]
@[simp] theorem writeByte_acked (sg off : Word) (v : Byte) : (s.writeByte sg off v).acked = s.acked := by rw [writeByte_only]
@[simp] theorem writeByte_ioLog (sg off : Word) (v : Byte) : (s.writeByte sg off v).ioLog = s.ioLog := by rw [writeByte_only]
@[simp] theorem writeByte_cfg (sg off : Word) (v : Byte) : (s.writeByte sg off v).cfg = s.cfg := by rw [writeByte_only]
@[simp] theorem writeByte_draws (sg off : Word) (v : Byte) : (s.writeByte sg off v).draws = s.draws := by rw [writeByte_only]
@[simp] theorem writeByte_fills (sg off : Word) (v : Byte) : (s.writeByte sg off v).fills = s.fills.tail := by rw [writeByte_only]

/-! ## The fields after a word store -/

@[simp] theorem writeWord_regs (sg off v : Word) : (s.writeWord sg off v).regs = s.regs := by rw [writeWord_only]
@[simp] theorem writeWord_segs (sg off v : Word) : (s.writeWord sg off v).segs = s.segs := by rw [writeWord_only]
@[simp] theorem writeWord_ip (sg off v : Word) : (s.writeWord sg off v).ip = s.ip := by rw [writeWord_only]
@[simp] theorem writeWord_flags (sg off v : Word) : (s.writeWord sg off v).flags = s.flags := by rw [writeWord_only]
@[simp] theorem writeWord_ovr (sg off v : Word) : (s.writeWord sg off v).ovr = s.ovr := by rw [writeWord_only]
@[simp] theorem writeWord_rep (sg off v : Word) : (s.writeWord sg off v).rep = s.rep := by rw [writeWord_only]
@[simp] theorem writeWord_lock (sg off v : Word) : (s.writeWord sg off v).lock = s.lock := by rw [writeWord_only]
@[simp] theorem writeWord_startIp (sg off v : Word) : (s.writeWord sg off v).startIp = s.startIp := by rw [writeWord_only]
@[simp] theorem writeWord_opIp (sg off v : Word) : (s.writeWord sg off v).opIp = s.opIp := by rw [writeWord_only]
@[simp] theorem writeWord_prefixing (sg off v : Word) : (s.writeWord sg off v).prefixing = s.prefixing := by rw [writeWord_only]
@[simp] theorem writeWord_repeating (sg off v : Word) : (s.writeWord sg off v).repeating = s.repeating := by rw [writeWord_only]
@[simp] theorem writeWord_trapPending (sg off v : Word) : (s.writeWord sg off v).trapPending = s.trapPending := by rw [writeWord_only]
@[simp] theorem writeWord_nmiPending (sg off v : Word) : (s.writeWord sg off v).nmiPending = s.nmiPending := by rw [writeWord_only]
@[simp] theorem writeWord_nmiEnable (sg off v : Word) : (s.writeWord sg off v).nmiEnable = s.nmiEnable := by rw [writeWord_only]
@[simp] theorem writeWord_noint (sg off v : Word) : (s.writeWord sg off v).noint = s.noint := by rw [writeWord_only]
@[simp] theorem writeWord_halted (sg off v : Word) : (s.writeWord sg off v).halted = s.halted := by rw [writeWord_only]
@[simp] theorem writeWord_ctrl (sg off v : Word) : (s.writeWord sg off v).ctrl = s.ctrl := by rw [writeWord_only]
@[simp] theorem writeWord_acked (sg off v : Word) : (s.writeWord sg off v).acked = s.acked := by rw [writeWord_only]
@[simp] theorem writeWord_ioLog (sg off v : Word) : (s.writeWord sg off v).ioLog = s.ioLog := by rw [writeWord_only]
@[simp] theorem writeWord_cfg (sg off v : Word) : (s.writeWord sg off v).cfg = s.cfg := by rw [writeWord_only]
@[simp] theorem writeWord_draws (sg off v : Word) : (s.writeWord sg off v).draws = s.draws := by rw [writeWord_only]
@[simp] theorem writeWord_fills (sg off v : Word) : (s.writeWord sg off v).fills = s.fills.tail.tail := by rw [writeWord_only]

/-! ## The fields after a push -/

@[simp] theorem push16_regs (v : Word) : (s.push16 v).regs = s.regs.set .sp (s.regs.sp - 2#16) := by rw [push16_only]
@[simp] theorem push16_segs (v : Word) : (s.push16 v).segs = s.segs := by rw [push16_only]
@[simp] theorem push16_ip (v : Word) : (s.push16 v).ip = s.ip := by rw [push16_only]
@[simp] theorem push16_flags (v : Word) : (s.push16 v).flags = s.flags := by rw [push16_only]
@[simp] theorem push16_ovr (v : Word) : (s.push16 v).ovr = s.ovr := by rw [push16_only]
@[simp] theorem push16_rep (v : Word) : (s.push16 v).rep = s.rep := by rw [push16_only]
@[simp] theorem push16_lock (v : Word) : (s.push16 v).lock = s.lock := by rw [push16_only]
@[simp] theorem push16_startIp (v : Word) : (s.push16 v).startIp = s.startIp := by rw [push16_only]
@[simp] theorem push16_opIp (v : Word) : (s.push16 v).opIp = s.opIp := by rw [push16_only]
@[simp] theorem push16_prefixing (v : Word) : (s.push16 v).prefixing = s.prefixing := by rw [push16_only]
@[simp] theorem push16_repeating (v : Word) : (s.push16 v).repeating = s.repeating := by rw [push16_only]
@[simp] theorem push16_trapPending (v : Word) : (s.push16 v).trapPending = s.trapPending := by rw [push16_only]
@[simp] theorem push16_nmiPending (v : Word) : (s.push16 v).nmiPending = s.nmiPending := by rw [push16_only]
@[simp] theorem push16_nmiEnable (v : Word) : (s.push16 v).nmiEnable = s.nmiEnable := by rw [push16_only]
@[simp] theorem push16_noint (v : Word) : (s.push16 v).noint = s.noint := by rw [push16_only]
@[simp] theorem push16_halted (v : Word) : (s.push16 v).halted = s.halted := by rw [push16_only]
@[simp] theorem push16_ctrl (v : Word) : (s.push16 v).ctrl = s.ctrl := by rw [push16_only]
@[simp] theorem push16_acked (v : Word) : (s.push16 v).acked = s.acked := by rw [push16_only]
@[simp] theorem push16_ioLog (v : Word) : (s.push16 v).ioLog = s.ioLog := by rw [push16_only]
@[simp] theorem push16_cfg (v : Word) : (s.push16 v).cfg = s.cfg := by rw [push16_only]
@[simp] theorem push16_draws (v : Word) : (s.push16 v).draws = s.draws := by rw [push16_only]
@[simp] theorem push16_fills (v : Word) : (s.push16 v).fills = s.fills.tail.tail := by rw [push16_only]

/-! ## Reads after stores -/

@[simp] theorem fill_physRead (p : PhysAddr) : s.fill.physRead p = s.physRead p := by
  rw [fill_only]
  rfl

theorem writeByte_physRead (sg off : Word) (v : Byte) (p : PhysAddr) :
    (s.writeByte sg off v).physRead p =
      if isUnmapped s.cfg p.toNat then s.cfg.openBus
      else if p = phys sg off then v else s.physRead p := by
  rw [writeByte, fill_physRead, physRead_physWrite]

theorem phys_succ_ne (sg off : Word) : phys sg (off + 1#16) ≠ phys sg off := by
  unfold phys
  intro h
  have h1 := congrArg BitVec.toNat h
  simp only [BitVec.toNat_add, BitVec.toNat_shiftLeft, BitVec.toNat_setWidth, BitVec.toNat_ofNat] at h1
  omega

theorem writeWord_physRead (sg off v : Word) (p : PhysAddr) :
    (s.writeWord sg off v).physRead p =
      if isUnmapped s.cfg p.toNat then s.cfg.openBus
      else if p = phys sg off then loByte v
      else if p = phys sg (off + 1#16) then hiByte v else s.physRead p := by
  rw [writeWord, writeByte_physRead, writeByte_physRead]
  simp only [writeByte_cfg]
  split
  · rfl
  · split
    · next h => rw [if_neg (fun h' => phys_succ_ne sg off (h.symm.trans h'))]
    · rfl

theorem push16_physRead (v : Word) (p : PhysAddr) :
    (s.push16 v).physRead p =
      if isUnmapped s.cfg p.toNat then s.cfg.openBus
      else if p = phys s.segs.ss (s.regs.sp - 2#16) then loByte v
      else if p = phys s.segs.ss (s.regs.sp - 2#16 + 1#16) then hiByte v else s.physRead p := by
  rw [push16, writeWord_physRead]
  rfl

theorem physRead_congr {s t : State} (hm : t.mem = s.mem) (hc : t.cfg = s.cfg) (p : PhysAddr) :
    t.physRead p = s.physRead p := by
  unfold physRead
  rw [hm, hc]

/-! ## The canonical form and the queue's bound -/

theorem writeByte_wf (sg off : Word) (v : Byte) (h : s.mem.wf = true) :
    (s.writeByte sg off v).mem.wf = true := by
  rw [writeByte, fill_only]
  exact physWrite_wf s _ _ h

theorem writeWord_wf (sg off v : Word) (h : s.mem.wf = true) : (s.writeWord sg off v).mem.wf = true :=
  writeByte_wf _ _ _ _ (writeByte_wf s _ _ _ h)

theorem push16_wf (v : Word) (h : s.mem.wf = true) : (s.push16 v).mem.wf = true :=
  writeWord_wf _ _ _ _ h

theorem fill_queue_le (h : s.queue.length ≤ queueCap s.cfg) : s.fill.queue.length ≤ queueCap s.cfg := by
  obtain ⟨q, hq, hc⟩ := s.fill_eq
  rw [hq]
  exact hc h

theorem writeByte_queue_le (sg off : Word) (v : Byte) (h : s.queue.length ≤ queueCap s.cfg) :
    (s.writeByte sg off v).queue.length ≤ queueCap s.cfg := by
  have := fill_queue_le (s.physWrite (phys sg off) v) (by rw [physWrite_eq]; exact h)
  rw [physWrite_eq] at this
  rw [writeByte, physWrite_eq]
  exact this

theorem writeWord_queue_le (sg off v : Word) (h : s.queue.length ≤ queueCap s.cfg) :
    (s.writeWord sg off v).queue.length ≤ queueCap s.cfg := by
  have := writeByte_queue_le (s.writeByte sg off (loByte v)) sg (off + 1#16) (hiByte v)
    (by simpa using writeByte_queue_le s sg off (loByte v) h)
  rw [writeByte_cfg] at this
  exact this

theorem push16_queue_le (v : Word) (h : s.queue.length ≤ queueCap s.cfg) :
    (s.push16 v).queue.length ≤ queueCap s.cfg := by
  exact writeWord_queue_le (s.setReg .sp (s.regs.sp - 2#16)) s.segs.ss (s.regs.sp - 2#16) v h

end State

end Sys2Proof.Machine
end

