-- ==== Sys2Proof/Laws/Claims.lean ====
section
/-! SUPPORT. What the shared operations do, in the vocabulary of the statements. -/

namespace Sys2Proof.Claims

open Sys2Proof Sys2Proof.Machine

/-- A byte that is not mapped reads as the open bus. -/
theorem physRead_unmapped (s : State) (p : PhysAddr) (h : isUnmapped s.cfg p.toNat = true) : s.physRead p = s.cfg.openBus := by
  unfold State.physRead; rw [if_pos h]

/-- Two offsets of one segment are two physical addresses. -/
theorem phys_inj (sg a b : Word) : phys sg a = phys sg b ↔ a = b := by
  constructor
  · intro h
    have h1 := congrArg BitVec.toNat h
    simp only [phys, BitVec.toNat_add, BitVec.toNat_shiftLeft, BitVec.toNat_setWidth] at h1
    have := a.isLt; have := b.isLt
    apply BitVec.eq_of_toNat_eq
    omega
  · rintro rfl; rfl

/-- The low byte of a word. -/
theorem loByte_eq (v : Word) : loByte v = v.setWidth 8 := rfl

/-- The high byte of a word. -/
theorem hiByte_eq (v : Word) : hiByte v = (v >>> 8).setWidth 8 := rfl

/-- A byte store takes entries of the bus unit's schedule from its front. -/
theorem writeByte_fills_drop (s : State) (sg off : Word) (v : Byte) : ∃ n, (s.writeByte sg off v).fills = Nat.iterate Schedule.tail n s.fills :=
  ⟨1, State.writeByte_fills s sg off v⟩

/-- A byte store stores exactly its byte. -/
theorem storesByte_writeByte (s : State) (sg off : Word) (v : Byte) : StoresByte s (s.writeByte sg off v) sg off v := by
  refine ⟨fun p => ?_, writeByte_fills_drop s sg off v⟩
  rw [State.writeByte_physRead]
  by_cases h : isUnmapped s.cfg p.toNat = true
  · simp [h, physRead_unmapped s p h]
  · simp [h]

/-- A word store stores exactly its word. -/
theorem storesWords_writeWord (s : State) (sg off v : Word) : StoresWords s (s.writeWord sg off v) sg [(off, v)] := by
  refine ⟨fun p => ?_, 2, State.writeWord_fills s sg off v⟩
  rw [State.writeWord_physRead]
  by_cases h : isUnmapped s.cfg p.toNat = true
  · simp [h, physRead_unmapped s p h]
  · simp only [h, storedByte, loByte_eq, hiByte_eq, Bool.false_eq_true, if_false]
    split
    · rfl
    · split <;> rfl

/-- The capacity of the queue. -/
theorem queueCap_eq (cfg : Config) : queueCap cfg = capacity cfg := by
  unfold queueCap capacity
  cases cfg.busWidth <;> rfl

/-- What `n` fills append: within the capacity, the bytes at the prefetch addresses. -/
theorem fillBy_appends (n : Nat) (s : State) :
    ∃ q, State.fillBy n s = { s with queue := s.queue ++ q } ∧
      q.length = min n (capacity s.cfg - s.queue.length) ∧
      ∀ k b, q[k]? = some b → b = s.physRead (prefetchAddr s k) := by
  induction n generalizing s with
  | zero => exact ⟨[], by simp [State.fillBy], by simp, by simp⟩
  | succ n ih =>
    rw [State.fillBy, queueCap_eq]
    split
    · next h =>
      obtain ⟨q, e, l, r⟩ := ih
        { s with queue := s.queue ++ [s.physRead (phys s.segs.cs (s.ip + BitVec.ofNat 16 s.queue.length))] }
      refine ⟨_ :: q, by rw [e]; simp; rfl, ?_, ?_⟩
      · simp at l ⊢; omega
      · intro k b hk
        cases k with
        | zero => simpa [prefetchAddr] using hk.symm
        | succ k =>
          have := r k b (by simpa using hk)
          simp only [prefetchAddr, List.length_append, List.length_singleton] at this ⊢
          rw [this, Nat.add_assoc, Nat.add_comm 1 k]
          rfl
    · exact ⟨[], by simp, by simp; omega, by simp⟩

/-- A fill point. -/
theorem filled_fill (s : State) : Filled s s.fill := by
  obtain ⟨q, e, h⟩ := fillBy_appends s.fills.head s
  exact ⟨q, by rw [State.fill, e], h⟩

/-- A filled queue is not longer than it was or than the capacity. -/
theorem length_filled {s t : State} (h : Filled s t) : t.queue.length ≤ max s.queue.length (capacity s.cfg) := by
  obtain ⟨q, rfl, l, -⟩ := h
  simp only [List.length_append]
  omega

/-- A byte store keeps what the queue holds; what is appended is memory's byte after the store. -/
theorem writeByte_appends (s : State) (sg off : Word) (v : Byte) :
    ∃ q, (s.writeByte sg off v).queue = s.queue ++ q ∧
      (s.writeByte sg off v).queue.length ≤ max s.queue.length (capacity s.cfg) ∧
      ∀ k b, q[k]? = some b → b = (s.writeByte sg off v).physRead (prefetchAddr s k) := by
  have f := filled_fill (s.physWrite (phys sg off) v)
  have l := length_filled f
  obtain ⟨q, e, -, r⟩ := f
  simp only [State.physWrite_queue, State.physWrite_cfg] at l
  refine ⟨q, by rw [State.writeByte, e]; simp, l, fun k b hk => ?_⟩
  rw [r k b hk, State.writeByte, State.fill_physRead]
  simp [prefetchAddr]

/-- A byte store keeps what the queue holds. -/
theorem queueKept_writeByte (s : State) (sg off : Word) (v : Byte) : QueueKept s (s.writeByte sg off v) := by
  obtain ⟨q, e, l, r⟩ := writeByte_appends s sg off v
  exact ⟨q, e, l, fun k b hk => .inr (r k b hk)⟩

/-- A word store keeps what the queue holds. -/
theorem queueKept_writeWord (s : State) (sg off v : Word) : QueueKept s (s.writeWord sg off v) := by
  obtain ⟨q, e, l, r⟩ := writeByte_appends s sg off (loByte v)
  obtain ⟨q', e', l', r'⟩ := writeByte_appends (s.writeByte sg off (loByte v)) sg (off + 1#16) (hiByte v)
  simp only [State.writeByte_cfg] at l'
  refine ⟨q ++ q', by rw [State.writeWord, e', e, List.append_assoc], by rw [State.writeWord]; omega,
    fun k b hk => ?_⟩
  by_cases hq : k < q.length
  · rw [List.getElem?_append_left hq] at hk
    have h := r k b hk
    rw [State.writeByte_physRead] at h
    rw [h, State.writeWord_physRead]
    by_cases hu : isUnmapped s.cfg (prefetchAddr s k).toNat = true
    · simp [hu]
    · by_cases hl : prefetchAddr s k = phys sg off
      · simp [hl]
      · simp [hu, hl]
  · rw [List.getElem?_append_right (by omega)] at hk
    refine .inr ((r' _ b hk).trans ?_)
    simp only [prefetchAddr, State.writeByte_segs, State.writeByte_ip, e, List.length_append]
    rw [show s.queue.length + q.length + (k - q.length) = s.queue.length + k by omega]
    rfl

/-- What is stored depends on memory, the parameters and the schedule only. -/
theorem storesWords_congr {s s' t t' : State} {sg ws} (h : StoresWords s t sg ws)
    (a : s'.mem = s.mem) (b : s'.cfg = s.cfg) (c : s'.fills = s.fills)
    (a' : t'.mem = t.mem) (b' : t'.cfg = t.cfg) (c' : t'.fills = t.fills) : StoresWords s' t' sg ws := by
  obtain ⟨h1, n, h2⟩ := h
  exact ⟨fun p => by rw [State.physRead_congr a' b', State.physRead_congr a b, b]; exact h1 p, n, by rw [c', c, h2]⟩

/-- A register write writes that register only. -/
theorem writesReg_set (s t : State) (r : Reg) (v : Word) (h : t.regs = s.regs.set r v) : WritesReg s t r v := by
  refine ⟨by rw [h]; simp, fun r' hr => by rw [h, Regs.get_set, if_neg hr]⟩

/-- A push stores exactly its word, two bytes below SP. -/
theorem storesWords_push16 (s : State) (v : Word) : StoresWords s (s.push16 v) s.segs.ss [(s.regs.sp - 2, v)] := by
  exact storesWords_congr (storesWords_writeWord (s.setReg .sp (s.regs.sp - 2#16)) s.segs.ss (s.regs.sp - 2) v) rfl rfl rfl rfl rfl rfl

/-- A push keeps what the queue holds. -/
theorem queueKept_push16 (s : State) (v : Word) : QueueKept s (s.push16 v) :=
  queueKept_writeWord (s.setReg .sp (s.regs.sp - 2#16)) s.segs.ss (s.regs.sp - 2) v

/-- A further word stored after a list of words. -/
theorem storesWords_cons {s t u : State} {sg ws off v} (h : StoresWords s t sg ws) (hc : t.cfg = s.cfg)
    (h' : StoresWords t u sg [(off, v)]) : StoresWords s u sg ((off, v) :: ws) := by
  obtain ⟨h1, n, h2⟩ := h
  obtain ⟨h3, m, h4⟩ := h'
  refine ⟨fun p => ?_, m + n, by rw [h4, h2, Function.iterate_add_apply]⟩
  have a := h1 p
  have b := h3 p
  rw [hc] at b
  rw [b, a]
  simp only [storedByte]
  split
  · rfl
  · split
    · rfl
    · split
      · rfl
      · simp

/-- Everything that a vectored transfer does. -/
theorem entered_service (s : State) (v : Byte) (ret : Word) : Entered s (s.service v ret) v ret := by
  obtain ⟨s1, e1⟩ : ∃ x, x = s.push16 s.flags.image := ⟨_, rfl⟩
  obtain ⟨s2, e2⟩ : ∃ x, x = s1.setFlags (Flags.enter s1.flags) := ⟨_, rfl⟩
  obtain ⟨s3, e3⟩ : ∃ x, x = s2.push16 s2.segs.cs := ⟨_, rfl⟩
  obtain ⟨s4, e4⟩ : ∃ x, x = s3.push16 ret := ⟨_, rfl⟩
  have e : s.service v ret = { s4.farJump (s4.physWord (State.vectorAddr v + 2#20)) (s4.physWord (State.vectorAddr v)) with halted := false } := by
    rw [e4, e3, e2, e1]; rfl
  have r1 : s1.regs = s.regs.set .sp (s.regs.sp - 2) := by simp [e1]
  have r2 : s2.regs = s.regs.set .sp (s.regs.sp - 2) := by rw [e2]; exact r1
  have r3 : s3.regs = s.regs.set .sp (s.regs.sp - 4) := by
    simp only [e3, State.push16_regs, r2]; simp [Regs.set]; bv_omega
  have r4 : s4.regs = s.regs.set .sp (s.regs.sp - 6) := by
    simp only [e4, State.push16_regs, r3]; simp [Regs.set]; bv_omega
  have g4 : s4.segs = s.segs := by simp [e4, e3, e2, e1]
  have c4 : s4.cfg = s.cfg := by simp [e4, e3, e2, e1]
  have k1 : StoresWords s s1 s.segs.ss [(s.regs.sp - 2, s.flags.image)] := by rw [e1]; exact storesWords_push16 s _
  have k2 : StoresWords s s2 s.segs.ss [(s.regs.sp - 2, s.flags.image)] := by rw [e2]; exact k1
  have k3 : StoresWords s2 s3 s.segs.ss [(s.regs.sp - 4, s.segs.cs)] := by
    have := storesWords_push16 s2 s2.segs.cs
    have h1 : s2.segs = s.segs := by simp [e2, e1]
    have h2 : s2.regs.sp - 2 = s.regs.sp - 4 := by rw [r2]; simp [Regs.set]; bv_omega
    rw [h1, h2] at this
    simpa [e3, h1] using this
  have k4 : StoresWords s3 s4 s.segs.ss [(s.regs.sp - 6, ret)] := by
    have := storesWords_push16 s3 ret
    have h1 : s3.segs = s.segs := by simp [e3, e2, e1]
    have h2 : s3.regs.sp - 2 = s.regs.sp - 6 := by rw [r3]; simp [Regs.set]; bv_omega
    rw [h1, h2] at this
    simpa [e4, h1] using this
  have k := storesWords_cons (storesWords_cons k2 (by simp [e2, e1]) k3) (by simp [e3, e2, e1]) k4
  have va : ∀ k, k < 4 → State.vectorAddr v + BitVec.ofNat 20 k = BitVec.ofNat 20 (4 * v.toNat + k) := by
    intro k hk
    have := v.isLt
    apply BitVec.eq_of_toNat_eq
    simp [State.vectorAddr, Nat.shiftLeft_eq]
    omega
  have va0 : State.vectorAddr v = BitVec.ofNat 20 (4 * v.toNat) := by simpa using va 0 (by omega)
  have w : ∀ (t : State), t.mem = s4.mem → t.cfg = s4.cfg →
      s4.physWord (State.vectorAddr v) = wordAt t (4 * v.toNat) ∧ s4.physWord (State.vectorAddr v + 2#20) = wordAt t (4 * v.toNat + 2) := by
    intro t h1 h2
    constructor
    · unfold State.physWord wordAt
      rw [State.physRead_congr h1 h2, State.physRead_congr h1 h2, show (1#20) = BitVec.ofNat 20 1 from rfl, va 1 (by omega), va0]; rfl
    · unfold State.physWord wordAt
      rw [State.physRead_congr h1 h2, State.physRead_congr h1 h2, show State.vectorAddr v + 2#20 + 1#20 = State.vectorAddr v + BitVec.ofNat 20 3 by bv_omega, va 3 (by omega), show (2#20) = BitVec.ofNat 20 2 from rfl, va 2 (by omega)]; rfl
  obtain ⟨t, ht⟩ : ∃ t, t = s.service v ret := ⟨_, rfl⟩
  rw [← ht]
  rw [e] at ht
  have tm : t.mem = s4.mem := by rw [ht]; rfl
  have tc : t.cfg = s4.cfg := by rw [ht]; rfl
  obtain ⟨w1, w2⟩ := w t tm tc
  refine ⟨?_, ?_, ?_, ?_, ?_, ?_, ?_, ?_⟩
  · rw [ht]
    simp [State.farJump, State.jump, State.setSeg, e4, e3, e2, e1]
  · exact writesReg_set _ _ _ _ (by rw [ht]; exact r4)
  · refine (congrArg State.segs ht).trans ?_
    change Segs.set s4.segs SReg.cs _ = _
    rw [g4, w2]; rfl
  · refine (congrArg State.ip ht).trans ?_
    exact w1
  · refine (congrArg State.flags ht).trans ?_
    change s4.flags = _
    simp [e4, e3, e2, e1, Flags.enter]
  · exact storesWords_congr k rfl rfl rfl tm tc (by rw [ht]; rfl)
  · rw [ht]; rfl
  · rw [ht]

/-- The image of flags read from a word. -/
theorem ofImage_image (v : Word) : (Flags.ofImage v).image = (v &&& 0x0FD5) ||| 0xF002 := by
    apply BitVec.eq_of_getLsbD_eq
    intro i hi
    simp only [Flags.image, Flags.ofImage, flagBit, BitVec.getLsbD_or, BitVec.getLsbD_and, BitVec.getLsbD_shiftLeft, BitVec.getLsbD_setWidth, BitVec.getLsbD_ofBool]
    have : i = 0 ∨ i = 1 ∨ i = 2 ∨ i = 3 ∨ i = 4 ∨ i = 5 ∨ i = 6 ∨ i = 7 ∨ i = 8 ∨ i = 9 ∨ i = 10 ∨ i = 11 ∨ i = 12 ∨ i = 13 ∨ i = 14 ∨ i = 15 := by omega
    rcases this with h | h | h | h | h | h | h | h | h | h | h | h | h | h | h | h <;> subst h <;> simp

/-- Flags come back from their image. -/
theorem image_ofImage (f : Flags) : Flags.ofImage f.image = f := by
  obtain ⟨a,b,c,d,e,f,g,h,i⟩ := f; revert a b c d e f g h i; decide

/-- A pop moves SP and nothing else. -/
theorem pop16_state (s : State) : s.pop16.2 = { s with regs := s.regs.set .sp (s.regs.sp + 2) } := rfl

/-- The stack seen from a moved SP. -/
theorem stackWord_add (s : State) (k : Word) (n : Word) :
   stackWord { s with regs := s.regs.set .sp (s.regs.sp + k) } n = stackWord s (k + n) := by
  show State.readWord _ s.segs.ss (s.regs.sp + k + n) = State.readWord _ _ _
  rw [BitVec.add_assoc]; rfl

/-- A pop returns the word at the top of the stack. -/
theorem pop16_word (s : State) : s.pop16.1 = stackWord s 0 := by
  show s.readWord s.segs.ss s.regs.sp = s.readWord s.segs.ss (s.regs.sp + 0)
  simp

/-- A state with other flags and another counter of free values. -/
abbrev withFlags (s : State) (f : Flags) (d : Nat) : State := { s with flags := f, draws := d }

/-- A byte write leaves SP, BP, SI and DI alone. -/
theorem get_set8 (r : Regs) (i : Reg8) (v : Byte) (j : Reg) (h : j ∉ [Reg.ax, .cx, .dx, .bx]) : (r.set8 i v).get j = r.get j := by
  cases j <;> simp at h <;> cases i <;> rfl

/-- A byte write writes that byte register only. -/
theorem writesReg8_set {s t : State} {r : Reg8} {v : Byte} (h : t.regs = s.regs.set8 r v) : WritesReg8 s t r v := by
  refine ⟨by rw [h]; simp, fun j hj => by rw [h, Regs.get8_set8, if_neg hj], fun j hj => ?_⟩
  rw [h]; exact get_set8 _ _ _ _ hj

/-- A state that differs in data fields only. -/
theorem onlyData_of {s t : State} {g f m q fi d} (h : t = { s with regs := g, flags := f, mem := m, queue := q, fills := fi, draws := d }) : OnlyData s t := by
  subst h; rfl

/-- A write of a byte operand, after a change of the flags, puts the byte there and does nothing else. -/
theorem wr8_puts (s : State) (f d) (l : Loc Reg8) (v : Byte) : OnlyData s ((withFlags s f d).wr8 l v) ∧ PutsByte s ((withFlags s f d).wr8 l v) v l
    ∧ ((withFlags s f d).wr8 l v).flags = f ∧ ((withFlags s f d).wr8 l v).draws = d := by
  cases l with
  | reg r =>
    exact ⟨rfl, ⟨writesReg8_set rfl, fun _ => rfl, rfl, rfl⟩, rfl, rfl⟩
  | mem sg off =>
    refine ⟨?_, ⟨?_, ?_, ?_⟩, ?_, ?_⟩
    · exact onlyData_of (State.writeByte_only (withFlags s f d) sg off v)
    · exact State.writeByte_regs _ _ _ _
    · have := storesByte_writeByte (withFlags s f d) sg off v
      exact this
    · exact queueKept_writeByte (withFlags s f d) sg off v
    · exact State.writeByte_flags _ _ _ _
    · exact State.writeByte_draws _ _ _ _

/-- A write of a word operand, after a change of the flags, puts the word there and does nothing else. -/
theorem wr16_puts (s : State) (f d) (l : Loc Reg) (v : Word) : OnlyData s ((withFlags s f d).wr16 l v) ∧ PutsWord s ((withFlags s f d).wr16 l v) v l
    ∧ ((withFlags s f d).wr16 l v).flags = f ∧ ((withFlags s f d).wr16 l v).draws = d := by
  cases l with
  | reg r =>
    exact ⟨rfl, ⟨writesReg_set _ _ _ _ rfl, fun _ => rfl, rfl, rfl⟩, rfl, rfl⟩
  | mem sg off =>
    refine ⟨?_, ⟨?_, ?_, ?_⟩, ?_, ?_⟩
    · exact onlyData_of (State.writeWord_only (withFlags s f d) sg off v)
    · exact State.writeWord_regs _ _ _ _
    · have := storesWords_writeWord (withFlags s f d) sg off v
      exact this
    · exact queueKept_writeWord (withFlags s f d) sg off v
    · exact State.writeWord_flags _ _ _ _
    · exact State.writeWord_draws _ _ _ _

/-- A segment register after a write. -/
theorem segs_get_set (g : Segs) (x : SReg) (v : Word) : (g.set x v).get x = v ∧ ∀ y, y ≠ x → (g.set x v).get y = g.get y :=
  ⟨by rw [Segs.get_set, if_pos rfl], fun y h => by rw [Segs.get_set, if_neg h]⟩

/-- A write of a segment register leaves the others alone. -/
theorem segs_of_set {s t : State} {x : SReg} {v : Word} (h : t.segs = s.segs.set x v) : t.segs.get x = v ∧ ∀ y, y ≠ x → t.segs.get y = s.segs.get y := by
  rw [h]; exact segs_get_set _ _ _

/-- Nothing is stored where memory, the queue and the schedule are as before. -/
theorem noStore_of {s t : State} (h1 : t.mem = s.mem) (h2 : t.cfg = s.cfg) (h3 : t.queue = s.queue) (h4 : t.fills = s.fills) : NoStore s t :=
  ⟨fun p => State.physRead_congr h1 h2 p, h3, h4⟩

/-- The far pointer of a memory operand. -/
theorem farPointer_mem (s : State) (m : MemRef) : ∃ msg, s.locate (.mem m : RM Reg) = .mem msg (effOffset s.regs m) ∧
    s.farPointer (.mem m) = some (s.readWord msg (effOffset s.regs m), s.readWord msg (effOffset s.regs m + 2)) := ⟨_, rfl, rfl⟩

/-- Parity as a count of ones. -/
theorem evenParity_byte : ∀ b : Byte, evenParity b = evenOnes b := by
  intro b
  unfold evenParity evenOnes
  generalize b.getLsbD = f
  simp only [show List.range 8 = [0,1,2,3,4,5,6,7] from rfl, List.countP_cons, List.countP_nil]
  cases f 0 <;> cases f 1 <;> cases f 2 <;> cases f 3 <;> cases f 4 <;> cases f 5 <;> cases f 6 <;> cases f 7 <;> rfl

/-- The parity of a result is that of its low byte. -/
theorem evenParity_low {n : Nat} (r : BitVec n) : evenParity (r.setWidth 8) = evenOnes r := by
  rw [evenParity_byte]
  unfold evenOnes
  congr 2
  apply List.countP_congr
  intro i hi
  simp at hi
  simp [hi]

/-- What `Flags.zsp` writes. -/
theorem resultFlags_zsp {n : Nat} (r : BitVec n) (f : Flags) : ResultFlags r (Flags.zsp r f) := by
  refine ⟨?_, ?_, evenParity_low r⟩
  · show (r == 0#n) = _
    rw [Bool.eq_iff_iff]; simp [BitVec.toNat_eq]
  · show r.msb = _
    rw [BitVec.msb_eq_decide]

/-- What an addition does to the flags. -/
theorem addHolds_addFlags {n : Nat} (a b : BitVec n) (c : Bool) (f : Flags) :
    AddHolds a b c (addResult a b c) (addFlags a b c f) ∧ (addFlags a b c f).AF = auxiliary a b (addResult a b c) ∧
    SystemFlagsKept f (addFlags a b c f) :=
  ⟨⟨by simp [addResult], rfl, rfl, resultFlags_zsp _ _⟩, rfl, rfl, rfl, rfl⟩

/-- What a subtraction does to the flags. -/
theorem subHolds_subFlags {n : Nat} (a b : BitVec n) (c : Bool) (f : Flags) :
    SubHolds a b c (subResult a b c) (subFlags a b c f) ∧ (subFlags a b c f).AF = auxiliary a b (subResult a b c) ∧
    SystemFlagsKept f (subFlags a b c f) := by
  refine ⟨⟨?_, ?_, rfl, resultFlags_zsp _ _⟩, rfl, rfl, rfl, rfl⟩
  · simp only [subResult, BitVec.toNat_ofInt]
    rw [Int.toNat_of_nonneg]
    · norm_cast
    · exact Int.emod_nonneg _ (by positivity)
  · show decide _ = decide _
    congr 1
    simp only [eq_iff_iff]; omega

/-- What a logic operation does to the flags. -/
theorem logicHolds_logicFlags {n : Nat} (r : BitVec n) (af : Bool) (f : Flags) : LogicHolds r (logicFlags r af f) ∧ SystemFlagsKept f (logicFlags r af f) :=
  ⟨⟨rfl, rfl, resultFlags_zsp _ _⟩, rfl, rfl, rfl⟩

/-- The value of a double-width dividend. -/
theorem toNat_append_halves {n : Nat} (hi lo : BitVec n) : (hi ++ lo).toNat = hi.toNat * 2 ^ n + lo.toNat := by
  rw [BitVec.toNat_append, Nat.shiftLeft_eq, Nat.mul_comm, ← Nat.two_pow_add_eq_or_of_lt lo.isLt]

/-- An integer in the signed range is kept. -/
theorem toInt_ofInt_small {n : Nat} (hn : n = 8 ∨ n = 16) (x : Int) (h1 : -2 ^ (n - 1) ≤ x) (h2 : x < 2 ^ (n - 1)) : (BitVec.ofInt n x).toInt = x := by
  rw [BitVec.toInt_ofInt]
  rcases hn with rfl | rfl
  · rw [Int.bmod_eq_of_le] <;> norm_num at * <;> omega
  · rw [Int.bmod_eq_of_le] <;> norm_num at * <;> omega

/-- The two outcomes of a signed division. -/
theorem divS_cases {n : Nat} (hn : n = 8 ∨ n = 16) (hi lo b : BitVec n) :
   (b.toInt ≠ 0 ∧ ((hi ++ lo).toInt.tdiv b.toInt).natAbs ≤ 2 ^ (n - 1) - 1 ∧ ∃ q r, divS hi lo b = some (q, r) ∧ q.toInt = (hi ++ lo).toInt.tdiv b.toInt ∧ r.toInt = (hi ++ lo).toInt.tmod b.toInt) ∨
   ((b.toInt = 0 ∨ (2 ^ (n - 1) - 1 < ((hi ++ lo).toInt.tdiv b.toInt).natAbs)) ∧ divS hi lo b = none) := by
  have b0 : b = 0#n ↔ b.toInt = 0 := by rw [← BitVec.toInt_inj]; simp
  by_cases h0 : b.toInt = 0
  · right
    exact ⟨.inl h0, by unfold divS; rw [if_pos (b0.mpr h0)]⟩
  · have h0' : ¬ b = 0#n := fun h => h0 (b0.mp h)
    obtain ⟨q, hq⟩ : ∃ q, q = (hi ++ lo).toInt.tdiv b.toInt := ⟨_, rfl⟩
    have e : divS hi lo b = if q > (2 : Int) ^ (n - 1) - 1 ∨ q < -((2 : Int) ^ (n - 1) - 1) then none else some (BitVec.ofInt n q, BitVec.ofInt n ((hi ++ lo).toInt - q * b.toInt)) := by
      unfold divS; rw [if_neg h0', hq]
    have er : (hi ++ lo).toInt - q * b.toInt = (hi ++ lo).toInt.tmod b.toInt := by
      rw [hq, Int.tmod_def, Int.mul_comm]
    have hb1 := BitVec.toInt_lt (x := b)
    have hb2 := BitVec.le_toInt (x := b)
    have hr : ((hi ++ lo).toInt.tmod b.toInt).natAbs < b.toInt.natAbs := by
      rw [Int.natAbs_tmod]; exact Nat.mod_lt _ (by omega)
    have p : (2 : Int) ^ (n - 1) = ((2 ^ (n - 1) : Nat) : Int) := by push_cast; rfl
    have p1 : 0 < 2 ^ (n - 1) := Nat.two_pow_pos _
    rw [← hq]
    by_cases hc : q > (2 : Int) ^ (n - 1) - 1 ∨ q < -((2 : Int) ^ (n - 1) - 1)
    · right
      refine ⟨.inr ?_, by rw [e, if_pos hc]⟩
      rw [p] at hc
      omega
    · left
      refine ⟨h0, ?_, _, _, by rw [e, if_neg hc], ?_, ?_⟩
      · rw [p] at hc; omega
      · apply toInt_ofInt_small hn <;> rw [p] at * <;> omega
      · rw [er]
        rw [p] at hb1 hb2
        apply toInt_ofInt_small hn <;> rw [p] <;> omega

/-- The two outcomes of an unsigned division. -/
theorem divU_cases {n : Nat} (hi lo d : BitVec n) :
   (hi < d ∧ ∃ q r, divU hi lo d = some (q, r) ∧ q.toNat = (hi ++ lo).toNat / d.toNat ∧ r.toNat = (hi ++ lo).toNat % d.toNat) ∨ (d ≤ hi ∧ divU hi lo d = none) := by
  by_cases h : hi < d
  · left
    refine ⟨h, ?_⟩
    have hc : ¬ (d = 0#n ∨ d.toNat ≤ hi.toNat) := by
      rw [← BitVec.toNat_inj]; rw [BitVec.lt_def] at h; simp; omega
    have e : divU hi lo d = some (BitVec.ofNat n ((hi ++ lo).toNat / d.toNat), BitVec.ofNat n ((hi ++ lo).toNat % d.toNat)) := by
      unfold divU; rw [if_neg hc]
    refine ⟨_, _, e, ?_, ?_⟩
    · rw [BitVec.toNat_ofNat, Nat.mod_eq_of_lt]
      have hd0 : 0 < d.toNat := by rw [BitVec.lt_def] at h; omega
      have := lo.isLt
      rw [Nat.div_lt_iff_lt_mul hd0, toNat_append_halves]
      calc hi.toNat * 2^n + lo.toNat < hi.toNat * 2^n + 2^n := by omega
          _ = (hi.toNat + 1) * 2^n := by ring
          _ ≤ d.toNat * 2^n := Nat.mul_le_mul_right _ h
          _ = _ := Nat.mul_comm _ _
    · rw [BitVec.toNat_ofNat, Nat.mod_eq_of_lt]
      have hd0 : 0 < d.toNat := by rw [BitVec.lt_def] at h; omega
      exact (Nat.mod_lt _ hd0).trans d.isLt
  · right
    have h' : d ≤ hi := by rw [BitVec.lt_def] at h; rw [BitVec.le_def]; omega
    refine ⟨h', ?_⟩
    unfold divU; rw [if_pos (.inr h')]

end Sys2Proof.Claims
end

