-- ==== Sys2Proof/Laws/Decode.lean ====
section
/-! SUPPORT. The parts of the encoding: register numbers, the fields of a ModRM byte, byte order, and that an
E operand is decoded from its own encoding. -/

namespace Sys2Proof

@[simp] theorem Reg.ofCode_code (r : Reg) : Reg.ofCode r.code = r := by cases r <;> rfl
@[simp] theorem Reg8.ofCode_code (r : Reg8) : Reg8.ofCode r.code = r := by cases r <;> rfl
@[simp] theorem SReg.ofCode_code (r : SReg) : SReg.ofCode r.code = r := by cases r <;> rfl
@[simp] theorem BaseIndex.ofCode_code (b : BaseIndex) : BaseIndex.ofCode b.code = b := by cases b <;> rfl

theorem Reg.code_ofCode (c : BitVec 3) : (Reg.ofCode c).code = c := by revert c; decide
theorem Reg8.code_ofCode (c : BitVec 3) : (Reg8.ofCode c).code = c := by revert c; decide
theorem SReg.code_ofCode (c : BitVec 2) : (SReg.ofCode c).code = c := by revert c; decide
theorem BaseIndex.code_ofCode (c : BitVec 3) : (BaseIndex.ofCode c).code = c := by revert c; decide

@[simp] theorem modOf_modrmByte (m : BitVec 2) (r x : BitVec 3) : modOf (modrmByte m r x) = m := by
  revert m r x; decide

@[simp] theorem regOf_modrmByte (m : BitVec 2) (r x : BitVec 3) : regOf (modrmByte m r x) = r := by
  revert m r x; decide

@[simp] theorem rmOf_modrmByte (m : BitVec 2) (r x : BitVec 3) : rmOf (modrmByte m r x) = x := by
  revert m r x; decide

/-- The three fields make up the byte. -/
theorem modrmByte_fields (m : Byte) : modrmByte (modOf m) (regOf m) (rmOf m) = m := by
  revert m; decide

/-- The word of its two bytes, low byte first. -/
@[simp] theorem mkWord_bytes (w : Word) : mkWord (hiByte w) (loByte w) = w := by
  unfold loByte hiByte mkWord
  apply BitVec.eq_of_getLsbD_eq
  intro i hi
  erw [BitVec.getLsbD_append]
  simp only [BitVec.getLsbD_setWidth, BitVec.getLsbD_ushiftRight]
  split
  · simp [*]
  · rw [show 8 + (i - 8) = i by omega]
    simp
    omega

/-- A well-formed memory operand is decoded from its own bytes, whatever follows. -/
theorem decodeRM_mem {ρ : Type} (f : BitVec 3 → ρ) (reg : BitVec 3) (m : MemRef) (rest : List Byte)
    (h : m.ok = true) :
    ∃ b ds, m.encode reg = b :: ds ∧ regOf b = reg ∧ decodeRM f b (ds ++ rest) = .ok (.mem m, rest) := by
  cases m with
  | direct off => exact ⟨_, _, rfl, by simp, by simp [decodeRM, wordBytes]⟩
  | base b =>
    refine ⟨_, _, rfl, by simp, ?_⟩
    have hb : b.code ≠ 6#3 := by cases b <;> first | decide | simp [MemRef.ok] at h
    simp [decodeRM, hb]
  | baseD8 b d => exact ⟨_, _, rfl, by simp, by simp [decodeRM]⟩
  | baseD16 b d => exact ⟨_, _, rfl, by simp, by simp [decodeRM, wordBytes]⟩

/-- A well-formed byte operand is decoded from its own bytes. -/
theorem decodeRM_encB (reg : BitVec 3) (e : RM Reg8) (rest : List Byte) (h : e.ok = true) :
    ∃ b ds, encB reg e = b :: ds ∧ regOf b = reg ∧ decodeRM Reg8.ofCode b (ds ++ rest) = .ok (e, rest) := by
  cases e with
  | reg r => exact ⟨_, _, rfl, by simp, by simp [decodeRM]⟩
  | mem m => exact decodeRM_mem _ reg m rest h

/-- A well-formed word operand is decoded from its own bytes. -/
theorem decodeRM_encW (reg : BitVec 3) (e : RM Reg) (rest : List Byte) (h : e.ok = true) :
    ∃ b ds, encW reg e = b :: ds ∧ regOf b = reg ∧ decodeRM Reg.ofCode b (ds ++ rest) = .ok (e, rest) := by
  cases e with
  | reg r => exact ⟨_, _, rfl, by simp, by simp [decodeRM]⟩
  | mem m => exact decodeRM_mem _ reg m rest h

theorem encode_mem_length (reg : BitVec 3) (m : MemRef) :
    1 ≤ (m.encode reg).length ∧ (m.encode reg).length ≤ 3 := by
  cases m <;> simp [MemRef.encode, wordBytes]

theorem encB_length (reg : BitVec 3) (e : RM Reg8) : 1 ≤ (encB reg e).length ∧ (encB reg e).length ≤ 3 := by
  cases e with
  | reg r => simp [encB]
  | mem m => exact encode_mem_length reg m

theorem encW_length (reg : BitVec 3) (e : RM Reg) : 1 ≤ (encW reg e).length ∧ (encW reg e).length ≤ 3 := by
  cases e with
  | reg r => simp [encW]
  | mem m => exact encode_mem_length reg m

end Sys2Proof
end

