-- ==== Sys2Proof/Laws/PerInstr.lean ====
section
/-! SUPPORT. Laws of every instruction as syntax, one lemma per constructor. `Length`: an instruction
without prefixes is 1 to 6 bytes long (30_encoding.md R120). -/

namespace Sys2Proof.Laws.Length

open Sys2Proof

/-- The encoding is 1 to 6 bytes long. -/
def Statement (i : Instr) : Prop := 1 ≤ (encode i).length ∧ (encode i).length ≤ maxInstrBytes

theorem ofLength {i : Instr} (n : Nat) (h : (encode i).length = n + 1) (hn : n ≤ 5) : Statement i := by
  unfold Statement maxInstrBytes
  omega

theorem one {i : Instr} (h : (encode i).length = 1) : Statement i := ofLength 0 h (by decide)
theorem two {i : Instr} (h : (encode i).length = 2) : Statement i := ofLength 1 h (by decide)
theorem three {i : Instr} (h : (encode i).length = 3) : Statement i := ofLength 2 h (by decide)
theorem five {i : Instr} (h : (encode i).length = 5) : Statement i := ofLength 4 h (by decide)

theorem byteOperand {i : Instr} (reg : BitVec 3) (e : RM Reg8) (n : Nat) (hn : n ≤ 2)
    (h : (encode i).length = (encB reg e).length + n + 1) : Statement i := by
  have := encB_length reg e
  unfold Statement maxInstrBytes
  omega

theorem wordOperand {i : Instr} (reg : BitVec 3) (e : RM Reg) (n : Nat) (hn : n ≤ 2)
    (h : (encode i).length = (encW reg e).length + n + 1) : Statement i := by
  have := encW_length reg e
  unfold Statement maxInstrBytes
  omega

theorem b0 {i : Instr} {op : Byte} (reg : BitVec 3) (e : RM Reg8) (h : encode i = op :: encB reg e) :
    Statement i := byteOperand reg e 0 (by decide) (by simp [h])

theorem b1 {i : Instr} {op x : Byte} (reg : BitVec 3) (e : RM Reg8) (h : encode i = op :: (encB reg e ++ [x])) :
    Statement i := byteOperand reg e 1 (by decide) (by simp [h])

theorem w0 {i : Instr} {op : Byte} (reg : BitVec 3) (e : RM Reg) (h : encode i = op :: encW reg e) :
    Statement i := wordOperand reg e 0 (by decide) (by simp [h])

theorem w1 {i : Instr} {op x : Byte} (reg : BitVec 3) (e : RM Reg) (h : encode i = op :: (encW reg e ++ [x])) :
    Statement i := wordOperand reg e 1 (by decide) (by simp [h])

theorem w2 {i : Instr} {op : Byte} {x : Word} (reg : BitVec 3) (e : RM Reg)
    (h : encode i = op :: (encW reg e ++ wordBytes x)) : Statement i :=
  wordOperand reg e 2 (by decide) (by simp [h, wordBytes])

theorem addEbGb (e : RM Reg8) (g : Reg8) : Statement (.addEbGb e g) := b0 _ _ rfl
theorem addEvGv (e : RM Reg) (g : Reg) : Statement (.addEvGv e g) := w0 _ _ rfl
theorem addGbEb (g : Reg8) (e : RM Reg8) : Statement (.addGbEb g e) := b0 _ _ rfl
theorem addGvEv (g : Reg) (e : RM Reg) : Statement (.addGvEv g e) := w0 _ _ rfl
theorem addAlIb (imm : Byte) : Statement (.addAlIb imm) := two rfl
theorem addAxIv (imm : Word) : Statement (.addAxIv imm) := three rfl
theorem orEbGb (e : RM Reg8) (g : Reg8) : Statement (.orEbGb e g) := b0 _ _ rfl
theorem orEvGv (e : RM Reg) (g : Reg) : Statement (.orEvGv e g) := w0 _ _ rfl
theorem orGbEb (g : Reg8) (e : RM Reg8) : Statement (.orGbEb g e) := b0 _ _ rfl
theorem orGvEv (g : Reg) (e : RM Reg) : Statement (.orGvEv g e) := w0 _ _ rfl
theorem orAlIb (imm : Byte) : Statement (.orAlIb imm) := two rfl
theorem orAxIv (imm : Word) : Statement (.orAxIv imm) := three rfl
theorem adcEbGb (e : RM Reg8) (g : Reg8) : Statement (.adcEbGb e g) := b0 _ _ rfl
theorem adcEvGv (e : RM Reg) (g : Reg) : Statement (.adcEvGv e g) := w0 _ _ rfl
theorem adcGbEb (g : Reg8) (e : RM Reg8) : Statement (.adcGbEb g e) := b0 _ _ rfl
theorem adcGvEv (g : Reg) (e : RM Reg) : Statement (.adcGvEv g e) := w0 _ _ rfl
theorem adcAlIb (imm : Byte) : Statement (.adcAlIb imm) := two rfl
theorem adcAxIv (imm : Word) : Statement (.adcAxIv imm) := three rfl
theorem sbbEbGb (e : RM Reg8) (g : Reg8) : Statement (.sbbEbGb e g) := b0 _ _ rfl
theorem sbbEvGv (e : RM Reg) (g : Reg) : Statement (.sbbEvGv e g) := w0 _ _ rfl
theorem sbbGbEb (g : Reg8) (e : RM Reg8) : Statement (.sbbGbEb g e) := b0 _ _ rfl
theorem sbbGvEv (g : Reg) (e : RM Reg) : Statement (.sbbGvEv g e) := w0 _ _ rfl
theorem sbbAlIb (imm : Byte) : Statement (.sbbAlIb imm) := two rfl
theorem sbbAxIv (imm : Word) : Statement (.sbbAxIv imm) := three rfl
theorem andEbGb (e : RM Reg8) (g : Reg8) : Statement (.andEbGb e g) := b0 _ _ rfl
theorem andEvGv (e : RM Reg) (g : Reg) : Statement (.andEvGv e g) := w0 _ _ rfl
theorem andGbEb (g : Reg8) (e : RM Reg8) : Statement (.andGbEb g e) := b0 _ _ rfl
theorem andGvEv (g : Reg) (e : RM Reg) : Statement (.andGvEv g e) := w0 _ _ rfl
theorem andAlIb (imm : Byte) : Statement (.andAlIb imm) := two rfl
theorem andAxIv (imm : Word) : Statement (.andAxIv imm) := three rfl
theorem subEbGb (e : RM Reg8) (g : Reg8) : Statement (.subEbGb e g) := b0 _ _ rfl
theorem subEvGv (e : RM Reg) (g : Reg) : Statement (.subEvGv e g) := w0 _ _ rfl
theorem subGbEb (g : Reg8) (e : RM Reg8) : Statement (.subGbEb g e) := b0 _ _ rfl
theorem subGvEv (g : Reg) (e : RM Reg) : Statement (.subGvEv g e) := w0 _ _ rfl
theorem subAlIb (imm : Byte) : Statement (.subAlIb imm) := two rfl
theorem subAxIv (imm : Word) : Statement (.subAxIv imm) := three rfl
theorem xorEbGb (e : RM Reg8) (g : Reg8) : Statement (.xorEbGb e g) := b0 _ _ rfl
theorem xorEvGv (e : RM Reg) (g : Reg) : Statement (.xorEvGv e g) := w0 _ _ rfl
theorem xorGbEb (g : Reg8) (e : RM Reg8) : Statement (.xorGbEb g e) := b0 _ _ rfl
theorem xorGvEv (g : Reg) (e : RM Reg) : Statement (.xorGvEv g e) := w0 _ _ rfl
theorem xorAlIb (imm : Byte) : Statement (.xorAlIb imm) := two rfl
theorem xorAxIv (imm : Word) : Statement (.xorAxIv imm) := three rfl
theorem cmpEbGb (e : RM Reg8) (g : Reg8) : Statement (.cmpEbGb e g) := b0 _ _ rfl
theorem cmpEvGv (e : RM Reg) (g : Reg) : Statement (.cmpEvGv e g) := w0 _ _ rfl
theorem cmpGbEb (g : Reg8) (e : RM Reg8) : Statement (.cmpGbEb g e) := b0 _ _ rfl
theorem cmpGvEv (g : Reg) (e : RM Reg) : Statement (.cmpGvEv g e) := w0 _ _ rfl
theorem cmpAlIb (imm : Byte) : Statement (.cmpAlIb imm) := two rfl
theorem cmpAxIv (imm : Word) : Statement (.cmpAxIv imm) := three rfl
theorem pushEs : Statement .pushEs := one rfl
theorem pushCs : Statement .pushCs := one rfl
theorem pushSs : Statement .pushSs := one rfl
theorem pushDs : Statement .pushDs := one rfl
theorem popEs : Statement .popEs := one rfl
theorem popSs : Statement .popSs := one rfl
theorem popDs : Statement .popDs := one rfl
theorem popCs : Statement .popCs := one rfl
theorem segEs : Statement .segEs := one rfl
theorem segCs : Statement .segCs := one rfl
theorem segSs : Statement .segSs := one rfl
theorem segDs : Statement .segDs := one rfl
theorem daa : Statement .daa := one rfl
theorem das : Statement .das := one rfl
theorem aaa : Statement .aaa := one rfl
theorem aas : Statement .aas := one rfl
theorem incR16 (r : Reg) : Statement (.incR16 r) := one rfl
theorem decR16 (r : Reg) : Statement (.decR16 r) := one rfl
theorem pushR16 (r : Reg) : Statement (.pushR16 r) := one rfl
theorem popR16 (r : Reg) : Statement (.popR16 r) := one rfl
theorem jccAlias (cc : BitVec 4) (rel : Byte) : Statement (.jccAlias cc rel) := two rfl
theorem joRel8 (rel : Byte) : Statement (.joRel8 rel) := two rfl
theorem jnoRel8 (rel : Byte) : Statement (.jnoRel8 rel) := two rfl
theorem jbRel8 (rel : Byte) : Statement (.jbRel8 rel) := two rfl
theorem jnbRel8 (rel : Byte) : Statement (.jnbRel8 rel) := two rfl
theorem jeRel8 (rel : Byte) : Statement (.jeRel8 rel) := two rfl
theorem jneRel8 (rel : Byte) : Statement (.jneRel8 rel) := two rfl
theorem jbeRel8 (rel : Byte) : Statement (.jbeRel8 rel) := two rfl
theorem jaRel8 (rel : Byte) : Statement (.jaRel8 rel) := two rfl
theorem jsRel8 (rel : Byte) : Statement (.jsRel8 rel) := two rfl
theorem jnsRel8 (rel : Byte) : Statement (.jnsRel8 rel) := two rfl
theorem jpRel8 (rel : Byte) : Statement (.jpRel8 rel) := two rfl
theorem jnpRel8 (rel : Byte) : Statement (.jnpRel8 rel) := two rfl
theorem jlRel8 (rel : Byte) : Statement (.jlRel8 rel) := two rfl
theorem jgeRel8 (rel : Byte) : Statement (.jgeRel8 rel) := two rfl
theorem jleRel8 (rel : Byte) : Statement (.jleRel8 rel) := two rfl
theorem jgRel8 (rel : Byte) : Statement (.jgRel8 rel) := two rfl
theorem addEbIb (e : RM Reg8) (imm : Byte) : Statement (.addEbIb e imm) := b1 _ _ rfl
theorem orEbIb (e : RM Reg8) (imm : Byte) : Statement (.orEbIb e imm) := b1 _ _ rfl
theorem adcEbIb (e : RM Reg8) (imm : Byte) : Statement (.adcEbIb e imm) := b1 _ _ rfl
theorem sbbEbIb (e : RM Reg8) (imm : Byte) : Statement (.sbbEbIb e imm) := b1 _ _ rfl
theorem andEbIb (e : RM Reg8) (imm : Byte) : Statement (.andEbIb e imm) := b1 _ _ rfl
theorem subEbIb (e : RM Reg8) (imm : Byte) : Statement (.subEbIb e imm) := b1 _ _ rfl
theorem xorEbIb (e : RM Reg8) (imm : Byte) : Statement (.xorEbIb e imm) := b1 _ _ rfl
theorem cmpEbIb (e : RM Reg8) (imm : Byte) : Statement (.cmpEbIb e imm) := b1 _ _ rfl
theorem addEvIv (e : RM Reg) (imm : Word) : Statement (.addEvIv e imm) := w2 _ _ rfl
theorem orEvIv (e : RM Reg) (imm : Word) : Statement (.orEvIv e imm) := w2 _ _ rfl
theorem adcEvIv (e : RM Reg) (imm : Word) : Statement (.adcEvIv e imm) := w2 _ _ rfl
theorem sbbEvIv (e : RM Reg) (imm : Word) : Statement (.sbbEvIv e imm) := w2 _ _ rfl
theorem andEvIv (e : RM Reg) (imm : Word) : Statement (.andEvIv e imm) := w2 _ _ rfl
theorem subEvIv (e : RM Reg) (imm : Word) : Statement (.subEvIv e imm) := w2 _ _ rfl
theorem xorEvIv (e : RM Reg) (imm : Word) : Statement (.xorEvIv e imm) := w2 _ _ rfl
theorem cmpEvIv (e : RM Reg) (imm : Word) : Statement (.cmpEvIv e imm) := w2 _ _ rfl
theorem addEbIb82 (e : RM Reg8) (imm : Byte) : Statement (.addEbIb82 e imm) := b1 _ _ rfl
theorem orEbIb82 (e : RM Reg8) (imm : Byte) : Statement (.orEbIb82 e imm) := b1 _ _ rfl
theorem adcEbIb82 (e : RM Reg8) (imm : Byte) : Statement (.adcEbIb82 e imm) := b1 _ _ rfl
theorem sbbEbIb82 (e : RM Reg8) (imm : Byte) : Statement (.sbbEbIb82 e imm) := b1 _ _ rfl
theorem andEbIb82 (e : RM Reg8) (imm : Byte) : Statement (.andEbIb82 e imm) := b1 _ _ rfl
theorem subEbIb82 (e : RM Reg8) (imm : Byte) : Statement (.subEbIb82 e imm) := b1 _ _ rfl
theorem xorEbIb82 (e : RM Reg8) (imm : Byte) : Statement (.xorEbIb82 e imm) := b1 _ _ rfl
theorem cmpEbIb82 (e : RM Reg8) (imm : Byte) : Statement (.cmpEbIb82 e imm) := b1 _ _ rfl
theorem addEvIbSx (e : RM Reg) (imm : Byte) : Statement (.addEvIbSx e imm) := w1 _ _ rfl
theorem orEvIbSx (e : RM Reg) (imm : Byte) : Statement (.orEvIbSx e imm) := w1 _ _ rfl
theorem adcEvIbSx (e : RM Reg) (imm : Byte) : Statement (.adcEvIbSx e imm) := w1 _ _ rfl
theorem sbbEvIbSx (e : RM Reg) (imm : Byte) : Statement (.sbbEvIbSx e imm) := w1 _ _ rfl
theorem andEvIbSx (e : RM Reg) (imm : Byte) : Statement (.andEvIbSx e imm) := w1 _ _ rfl
theorem subEvIbSx (e : RM Reg) (imm : Byte) : Statement (.subEvIbSx e imm) := w1 _ _ rfl
theorem xorEvIbSx (e : RM Reg) (imm : Byte) : Statement (.xorEvIbSx e imm) := w1 _ _ rfl
theorem cmpEvIbSx (e : RM Reg) (imm : Byte) : Statement (.cmpEvIbSx e imm) := w1 _ _ rfl
theorem testEbGb (e : RM Reg8) (g : Reg8) : Statement (.testEbGb e g) := b0 _ _ rfl
theorem testEvGv (e : RM Reg) (g : Reg) : Statement (.testEvGv e g) := w0 _ _ rfl
theorem xchgEbGb (e : RM Reg8) (g : Reg8) : Statement (.xchgEbGb e g) := b0 _ _ rfl
theorem xchgEvGv (e : RM Reg) (g : Reg) : Statement (.xchgEvGv e g) := w0 _ _ rfl
theorem movEbGb (e : RM Reg8) (g : Reg8) : Statement (.movEbGb e g) := b0 _ _ rfl
theorem movEvGv (e : RM Reg) (g : Reg) : Statement (.movEvGv e g) := w0 _ _ rfl
theorem movGbEb (g : Reg8) (e : RM Reg8) : Statement (.movGbEb g e) := b0 _ _ rfl
theorem movGvEv (g : Reg) (e : RM Reg) : Statement (.movGvEv g e) := w0 _ _ rfl
theorem movEwSreg (e : RM Reg) (sr : SReg) : Statement (.movEwSreg e sr) := w0 _ _ rfl
theorem movEwSregBad (x : BitVec 2) (e : RM Reg) : Statement (.movEwSregBad x e) := w0 _ _ rfl
theorem leaGvM (g : Reg) (e : RM Reg) : Statement (.leaGvM g e) := w0 _ _ rfl
theorem movSregEw (sr : SReg) (e : RM Reg) : Statement (.movSregEw sr e) := w0 _ _ rfl
theorem movSregEwBad (x : BitVec 2) (e : RM Reg) : Statement (.movSregEwBad x e) := w0 _ _ rfl
theorem popEv (e : RM Reg) : Statement (.popEv e) := w0 _ _ rfl
theorem refused8F1 (e : RM Reg) (imm : Unit) : Statement (.refused8F1 e imm) := w0 _ _ rfl
theorem refused8F2 (e : RM Reg) (imm : Unit) : Statement (.refused8F2 e imm) := w0 _ _ rfl
theorem refused8F3 (e : RM Reg) (imm : Unit) : Statement (.refused8F3 e imm) := w0 _ _ rfl
theorem refused8F4 (e : RM Reg) (imm : Unit) : Statement (.refused8F4 e imm) := w0 _ _ rfl
theorem refused8F5 (e : RM Reg) (imm : Unit) : Statement (.refused8F5 e imm) := w0 _ _ rfl
theorem refused8F6 (e : RM Reg) (imm : Unit) : Statement (.refused8F6 e imm) := w0 _ _ rfl
theorem refused8F7 (e : RM Reg) (imm : Unit) : Statement (.refused8F7 e imm) := w0 _ _ rfl
theorem nop : Statement .nop := one rfl
theorem xchgAxCx : Statement .xchgAxCx := one rfl
theorem xchgAxDx : Statement .xchgAxDx := one rfl
theorem xchgAxBx : Statement .xchgAxBx := one rfl
theorem xchgAxSp : Statement .xchgAxSp := one rfl
theorem xchgAxBp : Statement .xchgAxBp := one rfl
theorem xchgAxSi : Statement .xchgAxSi := one rfl
theorem xchgAxDi : Statement .xchgAxDi := one rfl
theorem cbw : Statement .cbw := one rfl
theorem cwd : Statement .cwd := one rfl
theorem callAp (off : Word) (sg : Word) : Statement (.callAp off sg) := five rfl
theorem wait : Statement .wait := one rfl
theorem pushf : Statement .pushf := one rfl
theorem popf : Statement .popf := one rfl
theorem sahf : Statement .sahf := one rfl
theorem lahf : Statement .lahf := one rfl
theorem movAlOb (off : Word) : Statement (.movAlOb off) := three rfl
theorem movAxOv (off : Word) : Statement (.movAxOv off) := three rfl
theorem movObAl (off : Word) : Statement (.movObAl off) := three rfl
theorem movOvAx (off : Word) : Statement (.movOvAx off) := three rfl
theorem movsb : Statement .movsb := one rfl
theorem movsw : Statement .movsw := one rfl
theorem cmpsb : Statement .cmpsb := one rfl
theorem cmpsw : Statement .cmpsw := one rfl
theorem stosb : Statement .stosb := one rfl
theorem stosw : Statement .stosw := one rfl
theorem lodsb : Statement .lodsb := one rfl
theorem lodsw : Statement .lodsw := one rfl
theorem scasb : Statement .scasb := one rfl
theorem scasw : Statement .scasw := one rfl
theorem testAlIb (imm : Byte) : Statement (.testAlIb imm) := two rfl
theorem testAxIv (imm : Word) : Statement (.testAxIv imm) := three rfl
theorem movR8Ib (r : Reg8) (imm : Byte) : Statement (.movR8Ib r imm) := two rfl
theorem movR16Iv (r : Reg) (imm : Word) : Statement (.movR16Iv r imm) := three rfl
theorem retIwC0 (imm : Word) : Statement (.retIwC0 imm) := three rfl
theorem retC1 : Statement .retC1 := one rfl
theorem retIw (imm : Word) : Statement (.retIw imm) := three rfl
theorem ret : Statement .ret := one rfl
theorem lesGvMp (g : Reg) (e : RM Reg) : Statement (.lesGvMp g e) := w0 _ _ rfl
theorem ldsGvMp (g : Reg) (e : RM Reg) : Statement (.ldsGvMp g e) := w0 _ _ rfl
theorem movEbIb (e : RM Reg8) (imm : Byte) : Statement (.movEbIb e imm) := b1 _ _ rfl
theorem movEvIv (e : RM Reg) (imm : Word) : Statement (.movEvIv e imm) := w2 _ _ rfl
theorem refusedC61 (e : RM Reg8) (imm : Byte) : Statement (.refusedC61 e imm) := b1 _ _ rfl
theorem refusedC62 (e : RM Reg8) (imm : Byte) : Statement (.refusedC62 e imm) := b1 _ _ rfl
theorem refusedC63 (e : RM Reg8) (imm : Byte) : Statement (.refusedC63 e imm) := b1 _ _ rfl
theorem refusedC64 (e : RM Reg8) (imm : Byte) : Statement (.refusedC64 e imm) := b1 _ _ rfl
theorem refusedC65 (e : RM Reg8) (imm : Byte) : Statement (.refusedC65 e imm) := b1 _ _ rfl
theorem refusedC66 (e : RM Reg8) (imm : Byte) : Statement (.refusedC66 e imm) := b1 _ _ rfl
theorem refusedC67 (e : RM Reg8) (imm : Byte) : Statement (.refusedC67 e imm) := b1 _ _ rfl
theorem refusedC71 (e : RM Reg) (imm : Word) : Statement (.refusedC71 e imm) := w2 _ _ rfl
theorem refusedC72 (e : RM Reg) (imm : Word) : Statement (.refusedC72 e imm) := w2 _ _ rfl
theorem refusedC73 (e : RM Reg) (imm : Word) : Statement (.refusedC73 e imm) := w2 _ _ rfl
theorem refusedC74 (e : RM Reg) (imm : Word) : Statement (.refusedC74 e imm) := w2 _ _ rfl
theorem refusedC75 (e : RM Reg) (imm : Word) : Statement (.refusedC75 e imm) := w2 _ _ rfl
theorem refusedC76 (e : RM Reg) (imm : Word) : Statement (.refusedC76 e imm) := w2 _ _ rfl
theorem refusedC77 (e : RM Reg) (imm : Word) : Statement (.refusedC77 e imm) := w2 _ _ rfl
theorem retfIwC8 (imm : Word) : Statement (.retfIwC8 imm) := three rfl
theorem retfC9 : Statement .retfC9 := one rfl
theorem retfIw (imm : Word) : Statement (.retfIw imm) := three rfl
theorem retf : Statement .retf := one rfl
theorem int3 : Statement .int3 := one rfl
theorem intIb (imm : Byte) : Statement (.intIb imm) := two rfl
theorem into : Statement .into := one rfl
theorem iret : Statement .iret := one rfl
theorem rolEb1 (e : RM Reg8) : Statement (.rolEb1 e) := b0 _ _ rfl
theorem rorEb1 (e : RM Reg8) : Statement (.rorEb1 e) := b0 _ _ rfl
theorem rclEb1 (e : RM Reg8) : Statement (.rclEb1 e) := b0 _ _ rfl
theorem rcrEb1 (e : RM Reg8) : Statement (.rcrEb1 e) := b0 _ _ rfl
theorem shlEb1 (e : RM Reg8) : Statement (.shlEb1 e) := b0 _ _ rfl
theorem shrEb1 (e : RM Reg8) : Statement (.shrEb1 e) := b0 _ _ rfl
theorem refusedD06 (e : RM Reg8) (imm : Unit) : Statement (.refusedD06 e imm) := b0 _ _ rfl
theorem sarEb1 (e : RM Reg8) : Statement (.sarEb1 e) := b0 _ _ rfl
theorem rolEv1 (e : RM Reg) : Statement (.rolEv1 e) := w0 _ _ rfl
theorem rorEv1 (e : RM Reg) : Statement (.rorEv1 e) := w0 _ _ rfl
theorem rclEv1 (e : RM Reg) : Statement (.rclEv1 e) := w0 _ _ rfl
theorem rcrEv1 (e : RM Reg) : Statement (.rcrEv1 e) := w0 _ _ rfl
theorem shlEv1 (e : RM Reg) : Statement (.shlEv1 e) := w0 _ _ rfl
theorem shrEv1 (e : RM Reg) : Statement (.shrEv1 e) := w0 _ _ rfl
theorem refusedD16 (e : RM Reg) (imm : Unit) : Statement (.refusedD16 e imm) := w0 _ _ rfl
theorem sarEv1 (e : RM Reg) : Statement (.sarEv1 e) := w0 _ _ rfl
theorem rolEbCl (e : RM Reg8) : Statement (.rolEbCl e) := b0 _ _ rfl
theorem rorEbCl (e : RM Reg8) : Statement (.rorEbCl e) := b0 _ _ rfl
theorem rclEbCl (e : RM Reg8) : Statement (.rclEbCl e) := b0 _ _ rfl
theorem rcrEbCl (e : RM Reg8) : Statement (.rcrEbCl e) := b0 _ _ rfl
theorem shlEbCl (e : RM Reg8) : Statement (.shlEbCl e) := b0 _ _ rfl
theorem shrEbCl (e : RM Reg8) : Statement (.shrEbCl e) := b0 _ _ rfl
theorem refusedD26 (e : RM Reg8) (imm : Unit) : Statement (.refusedD26 e imm) := b0 _ _ rfl
theorem sarEbCl (e : RM Reg8) : Statement (.sarEbCl e) := b0 _ _ rfl
theorem rolEvCl (e : RM Reg) : Statement (.rolEvCl e) := w0 _ _ rfl
theorem rorEvCl (e : RM Reg) : Statement (.rorEvCl e) := w0 _ _ rfl
theorem rclEvCl (e : RM Reg) : Statement (.rclEvCl e) := w0 _ _ rfl
theorem rcrEvCl (e : RM Reg) : Statement (.rcrEvCl e) := w0 _ _ rfl
theorem shlEvCl (e : RM Reg) : Statement (.shlEvCl e) := w0 _ _ rfl
theorem shrEvCl (e : RM Reg) : Statement (.shrEvCl e) := w0 _ _ rfl
theorem refusedD36 (e : RM Reg) (imm : Unit) : Statement (.refusedD36 e imm) := w0 _ _ rfl
theorem sarEvCl (e : RM Reg) : Statement (.sarEvCl e) := w0 _ _ rfl
theorem aamIb (imm : Byte) : Statement (.aamIb imm) := two rfl
theorem aadIb (imm : Byte) : Statement (.aadIb imm) := two rfl
theorem salc : Statement .salc := one rfl
theorem xlat : Statement .xlat := one rfl
theorem esc (x : BitVec 3) (y : BitVec 3) (e : RM Reg) : Statement (.esc x y e) := w0 _ _ rfl
theorem loopnzRel8 (rel : Byte) : Statement (.loopnzRel8 rel) := two rfl
theorem loopzRel8 (rel : Byte) : Statement (.loopzRel8 rel) := two rfl
theorem loopRel8 (rel : Byte) : Statement (.loopRel8 rel) := two rfl
theorem jcxzRel8 (rel : Byte) : Statement (.jcxzRel8 rel) := two rfl
theorem inAlIb (imm : Byte) : Statement (.inAlIb imm) := two rfl
theorem inAxIb (imm : Byte) : Statement (.inAxIb imm) := two rfl
theorem outIbAl (imm : Byte) : Statement (.outIbAl imm) := two rfl
theorem outIbAx (imm : Byte) : Statement (.outIbAx imm) := two rfl
theorem callRel16 (rel : Word) : Statement (.callRel16 rel) := three rfl
theorem jmpRel16 (rel : Word) : Statement (.jmpRel16 rel) := three rfl
theorem jmpAp (off : Word) (sg : Word) : Statement (.jmpAp off sg) := five rfl
theorem jmpRel8 (rel : Byte) : Statement (.jmpRel8 rel) := two rfl
theorem inAlDx : Statement .inAlDx := one rfl
theorem inAxDx : Statement .inAxDx := one rfl
theorem outDxAl : Statement .outDxAl := one rfl
theorem outDxAx : Statement .outDxAx := one rfl
theorem lock : Statement .lock := one rfl
theorem lockF1 : Statement .lockF1 := one rfl
theorem repne : Statement .repne := one rfl
theorem repe : Statement .repe := one rfl
theorem hlt : Statement .hlt := one rfl
theorem cmc : Statement .cmc := one rfl
theorem testEbIb (e : RM Reg8) (imm : Byte) : Statement (.testEbIb e imm) := b1 _ _ rfl
theorem testEbIbF1 (e : RM Reg8) (imm : Byte) : Statement (.testEbIbF1 e imm) := b1 _ _ rfl
theorem notEb (e : RM Reg8) : Statement (.notEb e) := b0 _ _ rfl
theorem negEb (e : RM Reg8) : Statement (.negEb e) := b0 _ _ rfl
theorem mulEb (e : RM Reg8) : Statement (.mulEb e) := b0 _ _ rfl
theorem imulEb (e : RM Reg8) : Statement (.imulEb e) := b0 _ _ rfl
theorem divEb (e : RM Reg8) : Statement (.divEb e) := b0 _ _ rfl
theorem idivEb (e : RM Reg8) : Statement (.idivEb e) := b0 _ _ rfl
theorem testEvIv (e : RM Reg) (imm : Word) : Statement (.testEvIv e imm) := w2 _ _ rfl
theorem testEvIvF1 (e : RM Reg) (imm : Word) : Statement (.testEvIvF1 e imm) := w2 _ _ rfl
theorem notEv (e : RM Reg) : Statement (.notEv e) := w0 _ _ rfl
theorem negEv (e : RM Reg) : Statement (.negEv e) := w0 _ _ rfl
theorem mulEv (e : RM Reg) : Statement (.mulEv e) := w0 _ _ rfl
theorem imulEv (e : RM Reg) : Statement (.imulEv e) := w0 _ _ rfl
theorem divEv (e : RM Reg) : Statement (.divEv e) := w0 _ _ rfl
theorem idivEv (e : RM Reg) : Statement (.idivEv e) := w0 _ _ rfl
theorem clc : Statement .clc := one rfl
theorem stc : Statement .stc := one rfl
theorem cli : Statement .cli := one rfl
theorem sti : Statement .sti := one rfl
theorem cld : Statement .cld := one rfl
theorem std : Statement .std := one rfl
theorem incEb (e : RM Reg8) : Statement (.incEb e) := b0 _ _ rfl
theorem decEb (e : RM Reg8) : Statement (.decEb e) := b0 _ _ rfl
theorem refusedFE2 (e : RM Reg8) (imm : Unit) : Statement (.refusedFE2 e imm) := b0 _ _ rfl
theorem refusedFE3 (e : RM Reg8) (imm : Unit) : Statement (.refusedFE3 e imm) := b0 _ _ rfl
theorem refusedFE4 (e : RM Reg8) (imm : Unit) : Statement (.refusedFE4 e imm) := b0 _ _ rfl
theorem refusedFE5 (e : RM Reg8) (imm : Unit) : Statement (.refusedFE5 e imm) := b0 _ _ rfl
theorem refusedFE6 (e : RM Reg8) (imm : Unit) : Statement (.refusedFE6 e imm) := b0 _ _ rfl
theorem refusedFE7 (e : RM Reg8) (imm : Unit) : Statement (.refusedFE7 e imm) := b0 _ _ rfl
theorem incEv (e : RM Reg) : Statement (.incEv e) := w0 _ _ rfl
theorem decEv (e : RM Reg) : Statement (.decEv e) := w0 _ _ rfl
theorem callEv (e : RM Reg) : Statement (.callEv e) := w0 _ _ rfl
theorem callMp (e : RM Reg) : Statement (.callMp e) := w0 _ _ rfl
theorem jmpEv (e : RM Reg) : Statement (.jmpEv e) := w0 _ _ rfl
theorem jmpMp (e : RM Reg) : Statement (.jmpMp e) := w0 _ _ rfl
theorem pushEv (e : RM Reg) : Statement (.pushEv e) := w0 _ _ rfl
theorem refusedFF7 (e : RM Reg) (imm : Unit) : Statement (.refusedFF7 e imm) := w0 _ _ rfl
theorem unknownOpcode (b : Byte) : Statement (.unknownOpcode b) := one rfl

end Sys2Proof.Laws.Length
end

