-- ==== Sys2Proof/Laws/Step.lean ====
section
/-! SUPPORT. The bus unit and the string operations under another REP state or trap latch, the end of an
instruction, fetching, and runs of prefix bytes. -/

namespace Sys2Proof.Claims

open Sys2Proof Sys2Proof.Machine

/-- A state with another REP state. -/
def withRep (s : State) (a : Option RepKind) (b : Option StrInsn) : State := { s with rep := a, repeating := b }

/-- The bus unit does not look at the REP state. -/
theorem fillBy_withRep (n : Nat) (s : State) (a b) : State.fillBy n (withRep s a b) = withRep (State.fillBy n s) a b := by
  induction n generalizing s with
  | zero => rfl
  | succ n ih =>
    simp only [State.fillBy]
    show (if s.queue.length < queueCap s.cfg then _ else _) = _
    split
    · exact ih { s with queue :=
        s.queue ++ [s.physRead (phys s.segs.cs (s.ip + BitVec.ofNat 16 s.queue.length))] }
    · rfl

/-- A fill point does not look at the REP state. -/
theorem fill_withRep (s : State) (a b) : (withRep s a b).fill = withRep s.fill a b := by
  have h := congrArg State.queue (fillBy_withRep s.fills.head s a b)
  rw [State.fill, State.fill]
  exact congrArg (fun q => { withRep s a b with queue := q, fills := s.fills.tail }) h

/-- The bus unit does not look at the trap latch. -/
theorem fillBy_withTrap (n : Nat) (s : State) (b : Bool) :
    State.fillBy n { s with trapPending := b } = { State.fillBy n s with trapPending := b } := by
  induction n generalizing s with
  | zero => rfl
  | succ n ih =>
    simp only [State.fillBy]
    show (if s.queue.length < queueCap s.cfg then _ else _) = _
    split
    · exact ih { s with queue :=
        s.queue ++ [s.physRead (phys s.segs.cs (s.ip + BitVec.ofNat 16 s.queue.length))] }
    · rfl

/-- A fill point does not look at the trap latch. -/
theorem fill_withTrap (s : State) (b : Bool) :
    State.fill { s with trapPending := b } = { s.fill with trapPending := b } := by
  have h := congrArg State.queue (fillBy_withTrap s.fills.head s b)
  exact congrArg (fun q => { s with trapPending := b, queue := q, fills := s.fills.tail }) h

/-- A byte store does not look at the REP state. -/
theorem writeByte_withRep (s : State) (a b) (sg off : Word) (v : Byte) : (withRep s a b).writeByte sg off v = withRep (s.writeByte sg off v) a b := by
  unfold State.writeByte
  rw [← fill_withRep]
  congr 1
  unfold State.physWrite
  show (if isUnmapped s.cfg _ then _ else _) = _
  split <;> rfl

/-- A word store does not look at the REP state. -/
theorem writeWord_withRep (s : State) (a b) (sg off v : Word) : (withRep s a b).writeWord sg off v = withRep (s.writeWord sg off v) a b := by
  unfold State.writeWord
  rw [writeByte_withRep, writeByte_withRep]

/-- An element is stored whatever the REP state is. -/
theorem writeElement_withRep (s : State) (a b) (w) (sg off v : Word) : (withRep s a b).writeElement w sg off v = withRep (s.writeElement w sg off v) a b := by
  cases w
  · exact writeByte_withRep _ _ _ _ _ _
  · exact writeWord_withRep _ _ _ _ _ _

/-- One element of a string operation does not look at the REP state. -/
theorem element_withRep (s : State) (x : StrInsn) (a b) : (withRep s a b).element x = withRep (s.element x) a b := by
  obtain ⟨op, w⟩ := x
  cases op
  · show (((withRep s a b).writeElement w s.segs.es s.regs.di (s.sourceElement w)).stepSi w).stepDi w = _
    rw [writeElement_withRep]; rfl
  · cases w <;> rfl
  · show ((withRep s a b).writeElement w s.segs.es s.regs.di s.regs.ax).stepDi w = _
    rw [writeElement_withRep]; rfl
  · cases w <;> rfl
  · cases w <;> rfl

/-- A string opcode runs `stringInsn`. -/
theorem exec_stringInstr (x : StrInsn) (s : State) : exec (stringInstr x) s = .next (s.stringInsn x) := by
  obtain ⟨op, w⟩ := x
  cases op <;> cases w <;> rfl

/-- Without a prefix a string opcode is one element. -/
theorem stringInsn_noRep (s : State) (x : StrInsn) (h : s.rep = none) : s.stringInsn x = s.element x := by
  unfold State.stringInsn; rw [h]

/-- The end of a step. -/
theorem finish_ended (t : State) : Host.Outcome.next t.finish = ended (.next t) := by
  unfold State.finish ended
  simp only; cases t.repeating <;> simp

/-- The end of an instruction with no event pending. -/
theorem endInstr_quiet (s : State) (h1 : s.trapPending = false) (h2 : s.nmiPending = false) (h3 : s.flags.IF = false) :
   s.endInstr = { s with ovr := none, rep := none, lock := false, repeating := none, noint := false } := by
  unfold State.endInstr State.interruptCheck
  cases s.noint <;> simp [h1, h2, h3]

/-- A run goes on from the next state. -/
theorem run_succ (M : Host.Core) (k : Nat) (s r : M.State) (h : M.step s = .next r) : M.run (k + 1) s = M.run k r := by
  rw [Host.Core.run, h]

/-- `fetch8` takes the queue's first byte, or memory's at the code address. -/
theorem fetch8_eq (s : State) : s.fetch8 = (s.queue.getD 0 (s.readByte s.segs.cs s.ip), { s with queue := s.queue.drop 1, ip := s.ip + 1#16 }) := by
  unfold State.fetch8
  cases h : s.queue with
  | nil => simp only [List.getD_nil, List.drop_nil]; rw [← h]; rfl
  | cons b q => rfl

/-- A run of prefix bytes takes as many units. -/
theorem runUnits_prefix {n : Nat} {s u : State} (h : PrefixRun n s u) : ∀ fuel, n ≤ fuel → runUnits fuel s = runUnits (fuel - n) u := by
  induction h with
  | none s => intro fuel _; simp
  | more fetched isPfx ran rest ih =>
    rename_i n s s1 s2 u i
    intro fuel hf
    obtain ⟨f, rfl⟩ : ∃ f, fuel = f + 1 := ⟨fuel - 1, by omega⟩
    rw [runUnits, fetched]
    simp only [ran, isPfx, if_true]
    rw [ih f (by omega)]
    congr 1; omega

/-- A step after its prefix bytes. -/
theorem step_prefixRun {n : Nat} {s u : State} (hh : s.halted = false) (hr : s.repeating = none)
    (h : PrefixRun n s.stepStart u) (hn : n ≤ prefixFuel) : step s = runUnits (prefixFuel - n) u := by
  rw [← runUnits_prefix h prefixFuel hn]
  simp [step, hh, hr]

end Sys2Proof.Claims
end

