-- ==== Sys2Proof/Tests/Slice0.lean ====
section
/-! SUPPORT. The model's own tests: ill-formed instructions, words written out from the encoding tables of
30_encoding.md, single steps whose results are those of 95_test_vectors.md (section 3) or are calculated by
hand from the rules, and a witness for the hypotheses of every statement that has some. -/

namespace Sys2Proof.Tests

open Sys2Proof Sys2Proof.Machine Sys2Proof.Claims

set_option maxRecDepth 8000

/-! ## Ill-formed instructions -/

/-- `[BP]` without displacement has no encoding (30_encoding.md R127). -/
theorem test_wf_base_bp : (Instr.movEvGv (.mem (.base .bp)) .ax).wf Config.standard = false := by decide

/-- An undocumented byte is no instruction of its own under `noop` (46_undocumented.md R440). -/
theorem test_wf_undocumented : Instr.salc.wf { Config.standard with undoc := .noop } = false := by decide

/-- An unknown opcode exists under `noop` only (R440, R449). -/
theorem test_wf_unknown : (Instr.unknownOpcode 0xD6).wf Config.standard = false := by decide

/-- An unknown opcode stands for a byte outside the known set. -/
theorem test_wf_unknown_byte :
    (Instr.unknownOpcode 0x90).wf { Config.standard with undoc := .noop } = false := by decide

/-! ## Words written out from the encodings (30_encoding.md R121 to R136) -/

/-- The decoder under the default parameters reads the bytes as the instruction and no byte more. -/
def reads (bs : List Byte) (i : Instr) : Bool := decode Config.standard bs == .ok (i, [])

/-- `1000_1001 11_011_000`. -/
theorem test_decode_mov_store : reads [0x89, 0xD8] (.movEvGv (.reg .ax) .bx) = true := by decide

/-- `1000_1011 01_000_110 disp8`. -/
theorem test_decode_mov_disp8 : reads [0x8B, 0x46, 0x02] (.movGvEv .ax (.mem (.baseD8 .bp 0x02))) = true := by decide

/-- `1000_1010 00_001_110 disp16`. -/
theorem test_decode_mov_direct : reads [0x8A, 0x0E, 0x34, 0x12] (.movGbEb .cl (.mem (.direct 0x1234))) = true := by decide

/-- `1000_1000 10_111_011 disp16`. -/
theorem test_decode_mov_disp16 : reads [0x88, 0xBB, 0xFF, 0x80] (.movEbGb (.mem (.baseD16 .bpDi 0x80FF)) .bh) = true := by decide

/-- `1000_1110 11_0_10_000`. -/
theorem test_decode_mov_sreg : reads [0x8E, 0xD0] (.movSregEw .ss (.reg .ax)) = true := by decide

/-- `0101_0111`. -/
theorem test_decode_push_r16 : reads [0x57] (.pushR16 .di) = true := by decide

/-- `1000_1111 11_000_101`. -/
theorem test_decode_pop_ev : reads [0x8F, 0xC5] (.popEv (.reg .bp)) = true := by decide

/-- `1000_1101 01_000_000 disp8`. -/
theorem test_decode_lea : reads [0x8D, 0x40, 0x05] (.leaGvM .ax (.mem (.baseD8 .bxSi 0x05))) = true := by decide

/-- `1110_1111`. -/
theorem test_decode_out_dx : reads [0xEF] (.outDxAx) = true := by decide

/-- `1000_0001 11_000_001 imm16`. -/
theorem test_decode_add_imm : reads [0x81, 0xC1, 0x34, 0x12] (.addEvIv (.reg .cx) 0x1234) = true := by decide

/-- `1000_0011 11_111_100 imm8`. -/
theorem test_decode_cmp_imm8 : reads [0x83, 0xFC, 0xFF] (.cmpEvIbSx (.reg .sp) 0xFF) = true := by decide

/-- `0001_1011 00_010_100`. -/
theorem test_decode_sbb_gv_ev : reads [0x1B, 0x14] (.sbbGvEv .dx (.mem (.base .si))) = true := by decide

/-- `1111_0111 11_111_110`. -/
theorem test_decode_idiv : reads [0xF7, 0xFE] (.idivEv (.reg .si)) = true := by decide

/-- `1111_0110 11_000_011 imm8`. -/
theorem test_decode_test_group : reads [0xF6, 0xC3, 0x80] (.testEbIb (.reg .bl) 0x80) = true := by decide

/-- `1101_0011 00_111_110 disp16`. -/
theorem test_decode_sar_cl : reads [0xD3, 0x3E, 0x34, 0x12] (.sarEvCl (.mem (.direct 0x1234))) = true := by decide

/-- `1101_0000 11_011_100`. -/
theorem test_decode_rcr_one : reads [0xD0, 0xDC] (.rcrEb1 (.reg .ah)) = true := by decide

/-- `1010_0101`. -/
theorem test_decode_movsw : reads [0xA5] (.movsw) = true := by decide

/-- `1111_0010`. -/
theorem test_decode_repne : reads [0xF2] (.repne) = true := by decide

/-- `1001_1010 off16 seg16`. -/
theorem test_decode_call_far : reads [0x9A, 0x00, 0x10, 0x00, 0x20] (.callAp 0x1000 0x2000) = true := by decide

/-- `1111_1111 00_101_111`. -/
theorem test_decode_jmp_indirect_far : reads [0xFF, 0x2F] (.jmpMp (.mem (.base .bx))) = true := by decide

/-- `0111_1111 rel8`. -/
theorem test_decode_jg : reads [0x7F, 0xFE] (.jgRel8 0xFE) = true := by decide

/-- `1100_1101 imm8`. -/
theorem test_decode_int : reads [0xCD, 0x21] (.intIb 0x21) = true := by decide

/-- `1111_1011`. -/
theorem test_decode_sti : reads [0xFB] (.sti) = true := by decide

/-- `1101_1_101 11_110_001`. -/
theorem test_decode_esc : reads [0xDD, 0xF1] (.esc 5 6 (.reg .cx)) = true := by decide

/-- `0110_1111 rel8`. -/
theorem test_decode_alias_60 : reads [0x6F, 0x10] (.jccAlias 0xF 0x10) = true := by decide

/-- `1000_0010 11_101_000 imm8`. -/
theorem test_decode_undocumented_82 : reads [0x82, 0xE8, 0x01] (.subEbIb82 (.reg .al) 0x01) = true := by decide

/-- `1111_1110 11_111_000`. -/
theorem test_decode_refused_group : reads [0xFE, 0xF8] (.refusedFE7 (.reg .al) ()) = true := by decide

/-- 95_test_vectors.md section 3.7's refused `8F 4F 00` is three bytes long (R132). -/
theorem test_decode_refused_disp :
    reads [0x8F, 0x4F, 0x00] (.refused8F1 (.mem (.baseD8 .bx 0)) ()) = true := by decide

/-- So is its `C6 C8 00`. -/
theorem test_decode_refused_imm : reads [0xC6, 0xC8, 0x00] (.refusedC61 (.reg .al) 0) = true := by decide

/-- `1101_0101 imm8`. -/
theorem test_decode_aad : reads [0xD5, 0x0A] (.aadIb 0x0A) = true := by decide

/-- A table word: the second byte is bits 15 to 8; operand bytes the table does not give are zeros. -/
theorem test_decode_table_word : decodeTableWord 16 0x0681 = some (.addEvIv (.mem (.direct 0)) 0) := by decide

/-! ## Single steps (95_test_vectors.md section 3) -/

/-- A machine with code at 0100:0000, the stack at 0200:0100 and data at 0500:0000, in the words of
95_test_vectors.md; every other register is zero; the bus unit is idle. -/
def machine (code : List Byte) (data : Memory) : State :=
  { State.reset with
    regs := { State.reset.regs with sp := 0x100 }
    segs := { es := 0, cs := 0x100, ss := 0x200, ds := 0x500 }
    fills := State.reset.fills.idle
    mem := data.foldl (fun m c => m.write c.1 c.2) (storeCode [] 0x100 0 code) }

/-- The step goes on to a state of which `p` holds. -/
def goesTo (s : State) (p : State → Bool) : Bool :=
  match step s with
  | .next t => p t
  | .fault _ => false
  | .refused _ => false

theorem test_step_mov_ax_bx :
    goesTo { machine [0x89, 0xD8] [] with
      regs := { State.reset.regs with sp := 0x100, bx := 0x1234 } }
      (fun t => t.regs.ax == 0x1234 && t.ip == 2) = true := by
  decide

theorem test_step_mov_ax_bx_indirect :
    goesTo { machine [0x8B, 0x07] [(0x5010, 0xCD), (0x5011, 0xAB)] with
      regs := { State.reset.regs with sp := 0x100, bx := 0x10 } }
      (fun t => t.regs.ax == 0xABCD) = true := by
  decide

theorem test_step_mov_es_override :
    goesTo { machine [0x26, 0x8B, 0x07] [(0x5010, 0xCD), (0x5011, 0xAB), (0x6010, 0x11), (0x6011, 0x22)] with
      regs := { State.reset.regs with sp := 0x100, bx := 0x10 }
      segs := { es := 0x600, cs := 0x100, ss := 0x200, ds := 0x500 } }
      (fun t => t.regs.ax == 0x2211) = true := by
  decide

theorem test_step_mov_bp_uses_ss :
    goesTo { machine [0x8B, 0x46, 0x02] [(0x20F2, 0x78), (0x20F3, 0x56)] with
      regs := { State.reset.regs with sp := 0x100, bp := 0xF0 } }
      (fun t => t.regs.ax == 0x5678) = true := by
  decide

theorem test_step_mov_moffs_wraps :
    goesTo (machine [0xA1, 0xFF, 0xFF] [(0x14FFF, 0x01), (0x5000, 0x02)])
      (fun t => t.regs.ax == 0x0201) = true := by
  decide

theorem test_step_mov_byte_imm :
    goesTo { machine [0xC6, 0x07, 0x99] [] with
      regs := { State.reset.regs with sp := 0x100, bx := 0x10 } }
      (fun t => t.physRead 0x5010 == 0x99 && t.physRead 0x5011 == 0) = true := by
  decide

theorem test_step_mov_moffs_cs :
    goesTo { machine [0x2E, 0xA2, 0x00, 0x00] [] with
      regs := { State.reset.regs with sp := 0x100, ax := 0x77 } }
      (fun t => t.physRead 0x1000 == 0x77) = true := by
  decide

theorem test_step_mov_ss_ax :
    goesTo { machine [0x8E, 0xD0] [] with
      regs := { State.reset.regs with sp := 0x100, ax := 0x300 } }
      (fun t => t.segs.ss == 0x300 && t.noint == false) = true := by
  decide

theorem test_step_mov_ax_cs :
    goesTo (machine [0x8C, 0xC8] [])
      (fun t => t.regs.ax == 0x100) = true := by
  decide

theorem test_step_push_ax_wraps :
    goesTo { machine [0x50] [] with
      regs := { State.reset.regs with sp := 0x0, ax := 0xBEEF } }
      (fun t => t.regs.sp == 0xFFFE && t.physRead 0x11FFE == 0xEF && t.physRead 0x11FFF == 0xBE) = true := by
  decide

theorem test_step_push_sp :
    goesTo (machine [0x54] [])
      (fun t => t.physRead 0x20FE == 0xFE && t.physRead 0x20FF == 0x00) = true := by
  decide

theorem test_step_pop_ax :
    goesTo { machine [0x58] [(0x20FE, 0x34), (0x20FF, 0x12)] with
      regs := { State.reset.regs with sp := 0xFE } }
      (fun t => t.regs.ax == 0x1234 && t.regs.sp == 0x100) = true := by
  decide

theorem test_step_xchg_al_ah :
    goesTo { machine [0x86, 0xC4] [] with
      regs := { State.reset.regs with sp := 0x100, ax := 0x1234 } }
      (fun t => t.regs.ax == 0x3412) = true := by
  decide

theorem test_step_xchg_ax_bx :
    goesTo { machine [0x93] [] with
      regs := { State.reset.regs with sp := 0x100, ax := 0x1, bx := 0x2 } }
      (fun t => t.regs.ax == 2 && t.regs.bx == 1) = true := by
  decide

theorem test_step_xlat :
    goesTo { machine [0xD7] [(0x5103, 0x5A)] with
      regs := { State.reset.regs with sp := 0x100, ax := 0x3, bx := 0x100 } }
      (fun t => t.regs.ax == 0x5A) = true := by
  decide

theorem test_step_lea_wraps :
    goesTo { machine [0x8D, 0x40, 0x05] [] with
      regs := { State.reset.regs with sp := 0x100, bx := 0xFFFF, si := 0x2 } }
      (fun t => t.regs.ax == 6) = true := by
  decide

theorem test_step_lds :
    goesTo { machine [0xC5, 0x37] [(0x5010, 0x00), (0x5011, 0x01), (0x5012, 0x00), (0x5013, 0x07)] with
      regs := { State.reset.regs with sp := 0x100, bx := 0x10 } }
      (fun t => t.regs.si == 0x100 && t.segs.ds == 0x700) = true := by
  decide

theorem test_step_lahf :
    goesTo { machine [0x9F] [] with
      flags := { State.reset.flags with CF := true, ZF := true, SF := true } }
      (fun t => t.regs.ax == 0xC300) = true := by
  decide

theorem test_step_sahf :
    goesTo { machine [0x9E] [] with
      regs := { State.reset.regs with sp := 0x100, ax := 0xFF00 } }
      (fun t => t.flags.image == 0xF0D7) = true := by
  decide

theorem test_step_pushf :
    goesTo { machine [0x9C] [] with
      flags := { State.reset.flags with IF := true, CF := true } }
      (fun t => t.physRead 0x20FE == 0x03 && t.physRead 0x20FF == 0xF2) = true := by
  decide

theorem test_step_popf :
    goesTo { machine [0x9D] [(0x20FE, 0xFF), (0x20FF, 0x0F)] with
      regs := { State.reset.regs with sp := 0xFE } }
      (fun t => t.flags.image == 0xFFD7) = true := by
  decide

theorem test_step_add_overflow :
    goesTo { machine [0x04, 0x01] [] with
      regs := { State.reset.regs with sp := 0x100, ax := 0x7F } }
      (fun t => t.regs.ax == 0x80 && t.flags.image == 0xF892) = true := by
  decide

theorem test_step_add_carry :
    goesTo { machine [0x04, 0x01] [] with
      regs := { State.reset.regs with sp := 0x100, ax := 0xFF } }
      (fun t => t.regs.ax == 0 && t.flags.image == 0xF057) = true := by
  decide

theorem test_step_adc_one :
    goesTo { machine [0x14, 0x01] [] with
      regs := { State.reset.regs with sp := 0x100, ax := 0xFF }
      flags := { State.reset.flags with CF := true } }
      (fun t => t.regs.ax == 1 && t.flags.CF && t.flags.AF) = true := by
  decide

theorem test_step_adc_quirk :
    goesTo { machine [0x15, 0xFF, 0xFF] [] with
      regs := { State.reset.regs with sp := 0x100, ax := 0x1234 }
      flags := { State.reset.flags with CF := true } }
      (fun t => t.regs.ax == 0x1234 && t.flags.CF && !t.flags.OF) = true := by
  decide

theorem test_step_sbb_borrow :
    goesTo { machine [0x1C, 0x00] [] with
      flags := { State.reset.flags with CF := true } }
      (fun t => t.regs.ax == 0xFF && t.flags.image == 0xF097) = true := by
  decide

theorem test_step_sub_overflow :
    goesTo { machine [0x2C, 0x01] [] with
      regs := { State.reset.regs with sp := 0x100, ax := 0x80 } }
      (fun t => t.regs.ax == 0x7F && t.flags.image == 0xF812) = true := by
  decide

theorem test_step_cmp_less :
    goesTo { machine [0x3C, 0x05] [] with
      regs := { State.reset.regs with sp := 0x100, ax := 0x3 } }
      (fun t => t.regs.ax == 3 && t.flags.image == 0xF093) = true := by
  decide

theorem test_step_add_sign_extended :
    goesTo (machine [0x83, 0xC0, 0xFF] [])
      (fun t => t.regs.ax == 0xFFFF && t.flags.image == 0xF086) = true := by
  decide

theorem test_step_inc_keeps_cf :
    goesTo { machine [0x40] [] with
      regs := { State.reset.regs with sp := 0x100, ax := 0x7FFF }
      flags := { State.reset.flags with CF := true } }
      (fun t => t.regs.ax == 0x8000 && t.flags.image == 0xF897) = true := by
  decide

theorem test_step_dec_keeps_cf :
    goesTo (machine [0x48] [])
      (fun t => t.regs.ax == 0xFFFF && t.flags.image == 0xF096) = true := by
  decide

theorem test_step_inc_byte_memory :
    goesTo { machine [0xFE, 0x07] [(0x5010, 0xFF)] with
      regs := { State.reset.regs with sp := 0x100, bx := 0x10 } }
      (fun t => t.physRead 0x5010 == 0 && t.flags.image == 0xF056) = true := by
  decide

theorem test_step_neg_80 :
    goesTo { machine [0xF6, 0xD8] [] with
      regs := { State.reset.regs with sp := 0x100, ax := 0x80 } }
      (fun t => t.regs.ax == 0x80 && t.flags.image == 0xF883) = true := by
  decide

theorem test_step_daa :
    goesTo { machine [0x27] [] with
      regs := { State.reset.regs with sp := 0x100, ax := 0x9A } }
      (fun t => t.regs.ax == 0 && t.flags.CF && t.flags.ZF) = true := by
  decide

theorem test_step_aaa_byte_add :
    goesTo { machine [0x37] [] with
      regs := { State.reset.regs with sp := 0x100, ax := 0xFA } }
      (fun t => t.regs.ax == 0x0100 && t.flags.CF) = true := by
  decide

theorem test_step_aas :
    goesTo { machine [0x3F] [] with
      regs := { State.reset.regs with sp := 0x100, ax := 0x2FF }
      flags := { State.reset.flags with AF := true } }
      (fun t => t.regs.ax == 0x0109 && t.flags.CF) = true := by
  decide

theorem test_step_mul_bx :
    goesTo { machine [0xF7, 0xE3] [] with
      regs := { State.reset.regs with sp := 0x100, ax := 0xFFFF, bx := 0xFFFF } }
      (fun t => t.regs.ax == 1 && t.regs.dx == 0xFFFE && t.flags.CF && t.flags.OF) = true := by
  decide

theorem test_step_imul_bl :
    goesTo { machine [0xF6, 0xEB] [] with
      regs := { State.reset.regs with sp := 0x100, ax := 0x80, bx := 0x80 } }
      (fun t => t.regs.ax == 0x4000 && t.flags.CF) = true := by
  decide

theorem test_step_imul_fits :
    goesTo { machine [0xF6, 0xEB] [] with
      regs := { State.reset.regs with sp := 0x100, ax := 0xFF, bx := 0x2 } }
      (fun t => t.regs.ax == 0xFFFE && !t.flags.CF) = true := by
  decide

theorem test_step_div_bl :
    goesTo { machine [0xF6, 0xF3] [] with
      regs := { State.reset.regs with sp := 0x100, ax := 0x7, bx := 0x2 } }
      (fun t => t.regs.ax == 0x0103) = true := by
  decide

theorem test_step_div_error :
    goesTo { machine [0xF6, 0xF3] [(0x0, 0x00), (0x1, 0x00), (0x2, 0x00), (0x3, 0x04)] with
      regs := { State.reset.regs with sp := 0x100, ax := 0x200, bx := 0x2 } }
      (fun t => t.regs.sp == 0xFA && t.regs.ax == 0x200 && t.segs.cs == 0x400 && t.ip == 0 && !t.flags.IF &&
        !t.flags.TF && (List.range 6).map (fun k => t.physRead (0x020FA + BitVec.ofNat 20 k)) ==
          [0x02, 0x00, 0x00, 0x01, 0x02, 0xF0]) = true := by
  decide

theorem test_step_idiv_bl :
    goesTo { machine [0xF6, 0xFB] [] with
      regs := { State.reset.regs with sp := 0x100, ax := 0x7, bx := 0xFE } }
      (fun t => t.regs.ax == 0x01FD) = true := by
  decide

theorem test_step_idiv_minus_128 :
    goesTo { machine [0xF6, 0xFB] [(0x0, 0x00), (0x1, 0x00), (0x2, 0x00), (0x3, 0x04)] with
      regs := { State.reset.regs with sp := 0x100, ax := 0x80, bx := 0xFF } }
      (fun t => t.regs.sp == 0xFA && t.regs.ax == 0x80) = true := by
  decide

theorem test_step_aam :
    goesTo { machine [0xD4, 0x0A] [] with
      regs := { State.reset.regs with sp := 0x100, ax := 0x3F } }
      (fun t => t.regs.ax == 0x0603 && t.flags.PF) = true := by
  decide

theorem test_step_aad :
    goesTo { machine [0xD5, 0x0A] [] with
      regs := { State.reset.regs with sp := 0x100, ax := 0x603 } }
      (fun t => t.regs.ax == 0x003F && t.flags.PF) = true := by
  decide

theorem test_step_cbw :
    goesTo { machine [0x98] [] with
      regs := { State.reset.regs with sp := 0x100, ax := 0x80 } }
      (fun t => t.regs.ax == 0xFF80) = true := by
  decide

theorem test_step_cwd :
    goesTo { machine [0x99] [] with
      regs := { State.reset.regs with sp := 0x100, ax := 0x8000 } }
      (fun t => t.regs.dx == 0xFFFF) = true := by
  decide

theorem test_step_not_al :
    goesTo { machine [0xF6, 0xD0] [] with
      regs := { State.reset.regs with sp := 0x100, ax := 0xF } }
      (fun t => t.regs.ax == 0xF0 && t.flags.image == 0xF002) = true := by
  decide

theorem test_step_xor_ax_ax :
    goesTo { machine [0x31, 0xC0] [] with
      regs := { State.reset.regs with sp := 0x100, ax := 0x55 }
      flags := { State.reset.flags with CF := true, OF := true } }
      (fun t => t.regs.ax == 0 && t.flags.ZF && !t.flags.CF && !t.flags.OF) = true := by
  decide

theorem test_step_test_bl :
    goesTo { machine [0xF6, 0xC3, 0x80] [] with
      regs := { State.reset.regs with sp := 0x100, bx := 0x80 } }
      (fun t => t.regs.bx == 0x80 && t.flags.SF && !t.flags.ZF) = true := by
  decide

theorem test_step_rol_one :
    goesTo { machine [0xD0, 0xC0] [] with
      regs := { State.reset.regs with sp := 0x100, ax := 0x81 } }
      (fun t => t.regs.ax == 3 && t.flags.CF && t.flags.OF) = true := by
  decide

theorem test_step_ror_one :
    goesTo { machine [0xD0, 0xC8] [] with
      regs := { State.reset.regs with sp := 0x100, ax := 0x81 } }
      (fun t => t.regs.ax == 0xC0 && t.flags.CF && !t.flags.OF) = true := by
  decide

theorem test_step_rcl_one :
    goesTo { machine [0xD0, 0xD0] [] with
      regs := { State.reset.regs with sp := 0x100, ax := 0x81 } }
      (fun t => t.regs.ax == 2 && t.flags.CF && t.flags.OF) = true := by
  decide

theorem test_step_rcr_one :
    goesTo { machine [0xD0, 0xD8] [] with
      regs := { State.reset.regs with sp := 0x100, ax := 0x81 } }
      (fun t => t.regs.ax == 0x40 && t.flags.CF && t.flags.OF) = true := by
  decide

theorem test_step_shl_nine :
    goesTo { machine [0xD2, 0xE0] [] with
      regs := { State.reset.regs with sp := 0x100, ax := 0x81, cx := 0x9 } }
      (fun t => t.regs.ax == 0 && !t.flags.CF && t.flags.ZF) = true := by
  decide

theorem test_step_shr_unmasked :
    goesTo { machine [0xD2, 0xE8] [] with
      regs := { State.reset.regs with sp := 0x100, ax := 0xFF, cx := 0x20 } }
      (fun t => t.regs.ax == 0 && !t.flags.CF) = true := by
  decide

theorem test_step_sar_ten :
    goesTo { machine [0xD2, 0xF8] [] with
      regs := { State.reset.regs with sp := 0x100, ax := 0x81, cx := 0xA } }
      (fun t => t.regs.ax == 0xFF && t.flags.CF) = true := by
  decide

theorem test_step_rcl_nine :
    goesTo { machine [0xD2, 0xD0] [] with
      regs := { State.reset.regs with sp := 0x100, ax := 0x81, cx := 0x9 }
      flags := { State.reset.flags with CF := true } }
      (fun t => t.regs.ax == 0x81 && t.flags.CF) = true := by
  decide

theorem test_step_rol_word :
    goesTo { machine [0xD3, 0xC0] [] with
      regs := { State.reset.regs with sp := 0x100, ax := 0x1234, cx := 0x4 } }
      (fun t => t.regs.ax == 0x2341 && t.flags.CF) = true := by
  decide

theorem test_step_shift_count_zero :
    goesTo { machine [0xD2, 0xE0] [] with
      regs := { State.reset.regs with sp := 0x100, ax := 0x81, cx := 0x0 }
      flags := { State.reset.flags with CF := true, ZF := true } }
      (fun t => t.regs.ax == 0x81 && t.flags.image == 0xF043) = true := by
  decide

theorem test_step_salc :
    goesTo { machine [0xD6] [] with
      flags := { State.reset.flags with CF := true } }
      (fun t => t.regs.ax == 0xFF) = true := by
  decide

theorem test_step_int_enters :
    goesTo { machine [0xCD, 0x20] [(0x80, 0x10), (0x81, 0x00), (0x82, 0x00), (0x83, 0x04)] with
      flags := { State.reset.flags with IF := true } }
      (fun t => t.ip == 0x10 && t.segs.cs == 0x400 && t.physRead 0x20FA == 2 && t.physRead 0x20FD == 1 && t.physRead 0x20FF == 0xF2 && !t.flags.IF) = true := by
  decide

theorem test_step_hlt :
    goesTo (machine [0xF4] [])
      (fun t => t.halted && t.ip == 1) = true := by
  decide

theorem test_step_movsb :
    goesTo { machine [0xA4] [(0x5001, 0x42)] with
      regs := { State.reset.regs with sp := 0x100, si := 0x1, di := 0x2 }
      segs := { es := 0x600, cs := 0x100, ss := 0x200, ds := 0x500 } }
      (fun t => t.physRead 0x6002 == 0x42 && t.regs.si == 2 && t.regs.di == 3) = true := by
  decide

theorem test_step_rep_stosw_first :
    goesTo { machine [0xF3, 0xAB] [] with
      regs := { State.reset.regs with sp := 0x100, ax := 0x1234, cx := 0x2, di := 0x0 }
      segs := { es := 0x600, cs := 0x100, ss := 0x200, ds := 0x500 }
      flags := { State.reset.flags with DF := true } }
      (fun t => t.physRead 0x6000 == 0x34 && t.regs.di == 0xFFFE && t.regs.cx == 1 && t.repeating == some ⟨.stos, .word⟩) = true := by
  decide

theorem test_step_rep_cx_zero :
    goesTo (machine [0xF3, 0xA4] [])
      (fun t => t.ip == 2 && t.repeating == none && t.regs.si == 0) = true := by
  decide
/-- Right after reset how many bytes the bus unit appends is free (20_memory.md R100,
93_implementation_defined.md U15). -/
theorem test_fill_free : State.reset.fills.head = Config.freeFill 0 ∧ State.reset.fill.fills.head = Config.freeFill 1 :=
  ⟨rfl, rfl⟩

/-- STOSB over the next byte after that was prefetched: the queue keeps the old byte (R104). -/
theorem test_fill_stale :
    goesTo { machine [0xAA, 0x40] [] with
        segs := { State.reset.segs with es := 0x100, cs := 0x100 }
        regs := { State.reset.regs with ax := 0x48, di := 1 }
        fills := { planned := [2, 0, 0], drawn := 0 } }
      (fun t => t.queue == [0x40] && t.readByte 0x100 1 == 0x48) = true := by decide

/-! ## Witnesses: the hypotheses of the statements are met together -/

/-- The state after reset with other general registers. -/
def withRegs (ax cx dx bx : Word) : State :=
  { State.reset with regs := { State.reset.regs with ax := ax, cx := cx, dx := dx, bx := bx } }

/-- O1. -/
theorem witness_decodeOfEncode :
    (Instr.addEvIbSx (.mem (.baseD8 .bp 0xFE)) 0x7F).wf Config.standard = true := by decide

/-- O2. -/
theorem witness_encodeOfDecode :
    decode Config.standard [0x83, 0x46, 0xFE, 0x7F, 0x90] =
      .ok (.addEvIbSx (.mem (.baseD8 .bp 0xFE)) 0x7F, [0x90]) := by decide

/-- O3, at the least length. -/
theorem witness_sixBytes : 6 ≤ ([0x81, 0x06, 0x34, 0x12, 0x78, 0x56] : List Byte).length := by decide

/-- O6, without a prefix. -/
theorem witness_step_no_prefix :
    (machine [0x89, 0xD8] []).halted = false ∧ (machine [0x89, 0xD8] []).repeating = none ∧
    0 < prefixFuel ∧ ∃ u, PrefixRun 0 (machine [0x89, 0xD8] []).beginInstr u ∧
      decode u.cfg (State.fetchBytes 6 u).1 = .ok (.movEvGv (.reg .ax) .bx, [0, 0, 0, 0]) ∧
      isPrefix (.movEvGv (.reg .ax) .bx) = false :=
  ⟨rfl, rfl, by decide, _, .none _, by decide, rfl⟩

/-- O6, with a prefix. -/
theorem witness_step_prefix :
    (machine [0x26, 0x8B, 0x07] []).halted = false ∧ (machine [0x26, 0x8B, 0x07] []).repeating = none ∧
    1 < prefixFuel ∧ ∃ u, PrefixRun 1 (machine [0x26, 0x8B, 0x07] []).beginInstr u ∧
      decode u.cfg (State.fetchBytes 6 u).1 = .ok (.movGvEv .ax (.mem (.base .bx)), [0, 0, 0, 0]) ∧
      isPrefix (.movGvEv .ax (.mem (.base .bx))) = false :=
  ⟨rfl, rfl, by decide, _, .more rfl rfl rfl (.none _), by decide, rfl⟩

/-- A machine whose code segment reads LOCK everywhere: nothing is mapped and the open bus gives F0. The bus
unit is idle at the next `n` fill points. -/
def onlyLocks (n : Nat) (ip op : Word) (b : Bool) : State :=
  { State.reset with
    fills := { planned := List.replicate n 0, drawn := 0 }
    ip := ip, opIp := op, lock := b, cfg := { Config.standard with unmapped := [⟨0, 2 ^ 20⟩], openBus := 0xF0 } }

theorem onlyLocks_readByte (n : Nat) (ip op : Word) (b : Bool) (sg off : Word) :
    (onlyLocks n ip op b).readByte sg off = 0xF0 := by
  have h : isUnmapped (onlyLocks n ip op b).cfg (phys sg off).toNat = true := by
    have := (phys sg off).isLt
    simp [isUnmapped, onlyLocks]
    omega
  unfold State.readByte State.physRead
  rw [if_pos h]
  rfl

theorem onlyLocks_prefixRun (n : Nat) (ip op : Word) (b : Bool) : ∃ u, PrefixRun n (onlyLocks n ip op b) u := by
  induction n generalizing ip op b with
  | zero => exact ⟨_, .none _⟩
  | succ n ih =>
    obtain ⟨u, h⟩ := ih (ip + 1) ip true
    refine ⟨u, .more (i := .lock) (s1 := onlyLocks (n + 1) (ip + 1) ip b) ?_ rfl rfl h⟩
    have e : (State.fetchBytes maxInstrBytes (onlyLocks (n + 1) ip op b)).1.head? = some 0xF0 :=
      congrArg some (onlyLocks_readByte _ ip op b _ _)
    have d : ∀ l : List Byte, l.head? = some 0xF0 →
        decode (onlyLocks (n + 1) ip op b).cfg l = .ok (.lock, l.tail) := by
      intro l hl
      cases l with
      | nil => cases hl
      | cons x l => cases hl; rfl
    unfold State.fetchInstr
    rw [d _ e]
    rfl

theorem onlyLocks_begin (n : Nat) : onlyLocks n 0 0 false = (onlyLocks (n + 1) 0 0 false).beginInstr := rfl

/-- O6: a run of prefix bytes that is longer than any step takes. -/
theorem witness_endless_prefixes : ∃ s u : State, s.halted = false ∧ s.repeating = none ∧
    PrefixRun prefixFuel (if s.prefixing then s else s.beginInstr) u :=
  (onlyLocks_prefixRun prefixFuel 0 0 false).elim fun u h =>
    ⟨onlyLocks (prefixFuel + 1) 0 0 false, u, rfl, rfl, onlyLocks_begin prefixFuel ▸ h⟩

/-- The machine after reset with an idle bus unit. -/
def idleReset : State := { State.reset with fills := State.reset.fills.idle }

/-- O9 and O11. -/
theorem witness_step_next : idleReset.Inv ∧ ∃ t, step idleReset = .next t :=
  ⟨⟨rfl, by decide, by decide, by decide⟩, _, rfl⟩

/-- O11: the NMI latch may be set after a step. -/
theorem witness_nmi_latch :
    ∃ t, step { idleReset with nmiPending := true, nmiEnable := false } = .next t ∧ t.nmiPending = true :=
  ⟨_, rfl, by decide⟩

/-- O13: a low and a high half. -/
theorem witness_byteAliasing (h : Obligations.ByteAliasing) :
    (State.reset.regs.set8 .al 0x12).ax = 0x0012 ∧ (State.reset.regs.set8 .bh 0x12).bx = 0x1200 :=
  ⟨(h .al .ax false (by simp) State.reset.regs 0x12 0).2.1, (h .bh .bx true (by simp) State.reset.regs 0x12 0).2.1⟩

/-- O16: with an override, and without. -/
theorem witness_effectiveAddress :
    ({ State.reset with ovr := some .es } : State).ovr = some .es ∧ State.reset.ovr = none := ⟨rfl, rfl⟩

/-- A state in which one address is not mapped. -/
def withHole : State := { State.reset with cfg := { Config.standard with unmapped := [⟨0x10, 1⟩] } }

/-- O17: both bytes mapped, and a byte that is not. -/
theorem witness_wordAccess :
    isUnmapped withHole.cfg (phys 0 0xFFFF).toNat = false ∧
    isUnmapped withHole.cfg (phys 0 (0xFFFF + 1)).toNat = false ∧
    isUnmapped withHole.cfg (0x10 : PhysAddr).toNat = true := by decide

/-- O18: SP = 0, where the push wraps. -/
theorem witness_pushThenPop :
    isUnmapped withHole.cfg (phys withHole.segs.ss (withHole.regs.sp - 2)).toNat = false ∧
    isUnmapped withHole.cfg (phys withHole.segs.ss (withHole.regs.sp - 1)).toNat = false := by decide

/-- O19, O20, O21: the widths, and a count. -/
theorem witness_widths : (8 = 8 ∨ 8 = 16) ∧ (16 = 8 ∨ 16 = 16) ∧ (255 : Nat) ≠ 0 := by decide

/-- O21: at the greatest quotient, and beyond it. -/
theorem witness_divisionLaws :
    divU (1 : Byte) 0xFF 2 = some (0xFF, 1) ∧ divU (2 : Byte) 0 2 = none ∧
    divS (0xFF : Byte) 0x81 0xFF = some (0x7F, 0) ∧ divS (0 : Byte) 0x80 0xFF = none := by decide

/-- O24. -/
theorem witness_carryQuirk :
    ({ State.reset with flags := { State.reset.flags with CF := true } } : State).flags.CF = true := rfl

/-- O25. -/
theorem witness_incrementForms (h : Obligations.IncrementDecrementForms) :
    (∃ t, exec (.incR16 .ax) State.reset = .next t) ∧ ∃ t, exec (.decEv (.reg .ax)) State.reset = .next t :=
  have k := h State.reset (.reg .al) (.reg .ax) .ax
  ⟨(k.2.2.1 (.incR16 .ax) (.reg .ax) (by simp)).elim fun t e => e.elim fun _ x => ⟨t, x.1⟩,
    (k.2.2.2 (.decEv (.reg .ax)) (.reg .ax) (by simp)).elim fun t e => e.elim fun _ x => ⟨t, x.1⟩⟩

/-- O27, the documented and the undocumented form. -/
theorem witness_testForms (h : Obligations.TestForms) :
    (∃ t, exec (.testAlIb 1) State.reset = .next t) ∧
    ∃ t, exec (.testEbIbF1 (.reg .al) 1) State.reset = .next t :=
  have k := h State.reset (.reg .al) (.reg .ax) .al .ax 1 1
  ⟨(k.1 (.testAlIb 1) 1 (State.reset.regs.get8 .al) (.inl (by simp))).elim fun t x => ⟨t, x.1⟩,
    (k.1 (.testEbIbF1 (.reg .al) 1) 1 _ (.inr ⟨rfl, rfl, rfl, rfl⟩)).elim fun t x => ⟨t, x.1⟩⟩

/-- O29. -/
theorem witness_multiplyForms : State.reset.rep = none ∧ State.reset.cfg.cpuVariant = .intel := ⟨rfl, rfl⟩

/-- O30: the greatest quotient of each form. -/
theorem witness_divideForms :
    (withRegs 0x01FF 0 0 2).rep = none ∧
    (withRegs 0x01FF 0 0 2).regs.get8 .ah < (withRegs 0x01FF 0 0 2).rdE8 (.reg .bl) ∧
    (withRegs 0xFFFF 0 1 2).regs.dx < (withRegs 0xFFFF 0 1 2).rdE16 (.reg .bx) ∧
    ((withRegs 0xFF81 0 0 0xFF).rdE8 (.reg .bl) ≠ 0 ∧
      ((withRegs 0xFF81 0 0 0xFF).regs.ax.toInt.tdiv
        ((withRegs 0xFF81 0 0 0xFF).rdE8 (.reg .bl)).toInt).natAbs ≤ 127) ∧
    ((withRegs 0x8001 0 0xFFFF 0xFFFF).rdE16 (.reg .bx) ≠ 0 ∧
      (((withRegs 0x8001 0 0xFFFF 0xFFFF).regs.dx ++ (withRegs 0x8001 0 0xFFFF 0xFFFF).regs.ax).toInt.tdiv
        ((withRegs 0x8001 0 0xFFFF 0xFFFF).rdE16 (.reg .bx)).toInt).natAbs ≤ 32767) := by decide

/-- O31: the least dividends that raise the divide error, a zero divisor, and base 0. -/
theorem witness_divideErrorForms :
    (withRegs 0x0200 0 0 2).rep = none ∧
    (withRegs 0x0200 0 0 2).rdE8 (.reg .bl) ≤ (withRegs 0x0200 0 0 2).regs.get8 .ah ∧
    (withRegs 0 0 2 2).rdE16 (.reg .bx) ≤ (withRegs 0 0 2 2).regs.dx ∧
    (withRegs 5 0 0 0).rdE8 (.reg .bl) = 0 ∧
    127 < ((withRegs 0x80 0 0 0xFF).regs.ax.toInt.tdiv
      ((withRegs 0x80 0 0 0xFF).rdE8 (.reg .bl)).toInt).natAbs ∧
    (withRegs 5 0 0 0).rdE16 (.reg .bx) = 0 ∧
    32767 < (((withRegs 0x8000 0 0 0xFFFF).regs.dx ++ (withRegs 0x8000 0 0 0xFFFF).regs.ax).toInt.tdiv
      ((withRegs 0x8000 0 0 0xFFFF).rdE16 (.reg .bx)).toInt).natAbs ∧
    Instr.aamIb 0 = .aamIb 0 := by decide

/-- O33. -/
theorem witness_asciiBase : (1 : Byte) ≠ 0 ∧ State.reset.cfg.cpuVariant = .intel := ⟨by decide, rfl⟩

/-- O34. -/
theorem witness_moveForms (h : Obligations.MoveForms) :
    (∃ t, exec (.movR8Ib .ah 7) State.reset = .next t) ∧ ∃ t, exec (.movOvAx 0) State.reset = .next t :=
  have k := h State.reset (.reg .al) (.reg .ax) .ah .ax 7 7 0
  ⟨(k.1 (.movR8Ib .ah 7) (.reg .ah) 7 (by simp)).elim fun t x => ⟨t, x.1⟩,
    (k.2 (.movOvAx 0) _ _ (by simp; exact ⟨rfl, rfl⟩)).elim fun t x => ⟨t, x.1⟩⟩

/-- O35. -/
theorem witness_segmentForms (h : Obligations.SegmentRegisterForms) :
    (∃ t, exec .popCs State.reset = .next t) ∧ (∃ t, exec (.lesGvMp .bx (.mem (.direct 0))) State.reset = .next t) ∧
    SReg.ds ≠ SReg.cs :=
  have k := h State.reset (.reg .ax) .ss .bx (.direct 0)
  ⟨(k.2.2.1 .popCs .cs (by simp)).elim fun t x => ⟨t, x.1⟩,
    (k.2.2.2 (.lesGvMp .bx (.mem (.direct 0))) .es (by simp)).elim fun t e => e.elim fun _ x => ⟨t, x.1⟩,
    by decide⟩

/-- O36. -/
theorem witness_pushForms (h : Obligations.PushForms) : ∃ t, exec (.pushR16 .sp) State.reset = .next t :=
  (h State.reset .sp (.direct 0) (.pushR16 .sp) _ (List.mem_cons_self)).elim fun t x => ⟨t, x.1⟩

/-- O37, with SP and with another register. -/
theorem witness_popForms (h : Obligations.PopForms) :
    (∃ t, exec (.popR16 .sp) State.reset = .next t) ∧ Reg.ax ≠ Reg.sp :=
  ⟨((h State.reset .sp (.direct 0)).1 (.popR16 .sp) (by simp)).elim fun t x => ⟨t, x.1⟩, by decide⟩

/-- O39. -/
theorem witness_exchangeForms (h : Obligations.ExchangeForms) :
    (∃ t, exec .xchgAxDi State.reset = .next t) ∧ Reg8.cl ≠ .al ∧ Reg8.cl ≠ .ah :=
  ⟨((h State.reset .al .ah .ax .ax (.direct 0)).2.2.2.2 .xchgAxDi .di (by simp)).elim fun t x => ⟨t, x.1⟩,
    by decide⟩

/-- O40. -/
theorem witness_portForms (h : Obligations.PortForms) :
    (∃ t, exec .inAlDx State.reset = .next t) ∧ ∃ t, exec .inAxDx State.reset = .next t :=
  have k := h State.reset 0
  ⟨(k.1 .inAlDx _ (by simp; rfl)).elim fun t e => e.elim fun _ x => ⟨t, x.1⟩,
    (k.2.1 .inAxDx _ (by simp; rfl)).elim fun t e => e.elim fun _ x => ⟨t, x.1⟩⟩

/-- O42 and O43. -/
theorem witness_stringElements (h : Obligations.StringCompareElements) :
    State.reset.rep = none ∧ ∃ t, exec .scasw State.reset = .next t :=
  ⟨rfl, (h State.reset rfl).elim fun _ k =>
    (k.2.2 .scasw State.reset.regs.ax [.di] (by simp)).elim fun t e => e.elim fun _ x => ⟨t, x.1⟩⟩

/-- A repeating string instruction with CX iterations left. -/
def repeatingState (cx : Word) (x : StrInsn) : State :=
  { withRegs 0 cx 0 0 with rep := some .repe, repeating := some x }

/-- O44: CX = 0 and CX = 1. -/
theorem witness_repFirst :
    ({ withRegs 0 0 0 0 with rep := some .repe } : State).rep = some .repe ∧
    ({ withRegs 0 0 0 0 with rep := some .repe } : State).repeating = none ∧
    (withRegs 0 0 0 0).regs.cx = 0 ∧ (withRegs 0 1 0 0).regs.cx ≠ 0 := by decide

/-- O45: with an event pending, and without. -/
theorem witness_repLater :
    (repeatingState 1 ⟨.cmps, .byte⟩).halted = false ∧
    (repeatingState 1 ⟨.cmps, .byte⟩).repeating = some ⟨.cmps, .byte⟩ ∧
    (repeatingState 1 ⟨.cmps, .byte⟩).rep = some .repe ∧ (repeatingState 1 ⟨.cmps, .byte⟩).regs.cx ≠ 0 ∧
    eventPending (repeatingState 1 ⟨.cmps, .byte⟩) = false ∧
    eventPending { repeatingState 1 ⟨.cmps, .byte⟩ with nmiPending := true } = true := by decide

/-- O46, with the greatest count. -/
theorem witness_repRunsOut :
    StrOp.stos ∈ [StrOp.movs, .stos, .lods] ∧ (repeatingState 0xFFFF ⟨.stos, .word⟩).halted = false ∧
    (repeatingState 0xFFFF ⟨.stos, .word⟩).repeating = some ⟨.stos, .word⟩ ∧
    (repeatingState 0xFFFF ⟨.stos, .word⟩).rep = some .repe ∧
    (repeatingState 0xFFFF ⟨.stos, .word⟩).regs.cx ≠ 0 ∧
    (repeatingState 0xFFFF ⟨.stos, .word⟩).trapPending = false ∧
    (repeatingState 0xFFFF ⟨.stos, .word⟩).nmiPending = false ∧
    (repeatingState 0xFFFF ⟨.stos, .word⟩).flags.IF = false := by decide

/-- O47. -/
theorem witness_nearTransfers (h : Obligations.NearTransfers) :
    (∃ t, exec (.jmpRel8 5) State.reset = .next t) ∧ (∃ t, exec (.callRel16 5) State.reset = .next t) ∧
    ∃ t, exec .retC1 State.reset = .next t :=
  have k := h State.reset (.reg .ax) 5 5 0
  ⟨⟨_, k.1 (.jmpRel8 5) _ (by simp; rfl)⟩,
    (k.2.1 (.callRel16 5) _ (by simp; rfl)).elim fun t x => ⟨t, x.1⟩,
    (k.2.2 .retC1 0 (by simp)).elim fun t x => ⟨t, x.1⟩⟩

/-- O48. -/
theorem witness_farTransfers (h : Obligations.FarTransfers) :
    (∃ t, exec (.jmpAp 1 2) State.reset = .next t) ∧ (∃ t, exec (.callAp 1 2) State.reset = .next t) ∧
    ∃ t, exec .retfC9 State.reset = .next t :=
  (h State.reset (.direct 0) 1 2 0).elim fun _ k =>
  ⟨⟨_, k.2.1 (.jmpAp 1 2) 2 1 (by simp)⟩,
    (k.2.2.1 (.callAp 1 2) 2 1 (by simp)).elim fun t x => ⟨t, x.1⟩,
    (k.2.2.2 .retfC9 0 (by simp)).elim fun t x => ⟨t, x.1⟩⟩

/-- O49. -/
theorem witness_conditionalJumps (h : Obligations.ConditionalJumps) :
    exec (.jneRel8 5) State.reset = .next (jumped State.reset 5) :=
  (h State.reset 5).elim fun _ k => (k.2 0x5 (.jneRel8 5) _ (by simp; rfl)).1.trans (by rw [k.1]; rfl)

/-- O51: OF set and clear. -/
theorem witness_into :
    ({ State.reset with flags := { State.reset.flags with OF := true } } : State).flags.OF = true ∧
    State.reset.flags.OF = false := ⟨rfl, rfl⟩

/-- O53, with the stack wrapping over the end of its segment. -/
theorem witness_entryThenReturn :
    ∀ k : Nat, k < 6 →
      isUnmapped withHole.cfg (phys withHole.segs.ss (withHole.regs.sp - 6 + BitVec.ofNat 16 k)).toNat = false := by
  decide

/-- O54: each of the five cases. -/
theorem witness_interruptCheck :
    ({ State.reset with noint := true } : State).noint = true ∧ State.reset.noint = false ∧
    ({ State.reset with trapPending := true } : State).trapPending = true ∧
    State.reset.trapPending = false ∧
    ({ State.reset with nmiPending := true } : State).nmiEnable = true ∧
    (State.reset.nmiPending && State.reset.nmiEnable) = false ∧
    ({ State.reset with flags := { State.reset.flags with IF := true }, ctrl := [8] } : State).ctrl = 8 :: [] ∧
    State.reset.ctrl = [] := by decide

/-- O55: with and without suppression. -/
theorem witness_instructionEnd :
    ({ State.reset with noint := true } : State).noint = true ∧ State.reset.noint = false ∧
    ({ State.reset with trapPending := true } : State).trapPending = true := ⟨rfl, rfl, rfl⟩

/-- O56: halted, and it stays so; woken by the NMI; woken by the controller; suppressed. -/
theorem witness_haltedStep :
    ({ State.reset with halted := true } : State).halted = true ∧
    goesTo { State.reset with halted := true } (fun t => t.halted) = true ∧
    goesTo { State.reset with halted := true, nmiPending := true } (fun t => !t.halted && !t.nmiPending) = true ∧
    goesTo { State.reset with halted := true, flags := { State.reset.flags with IF := true }, ctrl := [8, 9] }
      (fun t => !t.halted && t.ctrl == [9] && t.acked == [8]) = true ∧
    goesTo { State.reset with halted := true, nmiPending := true, noint := true }
      (fun t => t.halted && t.nmiPending && !t.noint) = true := by decide

/-- O57: both values of `P_STI_SHADOW`. -/
theorem witness_flagInstructions :
    State.reset.cfg.stiShadow = false ∧
    ({ State.reset with cfg := { Config.standard with stiShadow := true } } : State).cfg.stiShadow = true :=
  ⟨rfl, rfl⟩

/-- O58. -/
theorem witness_unknownOpcode :
    ({ State.reset with cfg := { Config.standard with undoc := .noop } } : State).cfg.undoc = .noop ∧
    (0x0F : Byte) ∈ undocumentedBytes ∧ (0xF1 : Byte) ∈ undocumentedBytes ∧
    decode { Config.standard with undoc := .noop } [0x82, 0x90] = .ok (.unknownOpcode 0x82, [0x90]) := by decide

/-- O59: an instruction of each side, and one that changes sides with the state. -/
theorem witness_refusedForms :
    (alwaysRefused .nop || sometimesRefused State.reset .nop) = false ∧
    alwaysRefused (.refusedFF7 (.reg .ax) ()) = true ∧ sometimesRefused State.reset (.mulEb (.reg .al)) = false ∧
    sometimesRefused { State.reset with rep := some .repe } (.mulEb (.reg .al)) = true := by decide

/-- The instruction runs and changes what `p` looks at. -/
def changes {α : Type} [DecidableEq α] (i : Instr) (s : State) (p : State → α) : Bool :=
  match exec i s with
  | .next t => p t != p s
  | .fault _ => false
  | .refused _ => false

/-- O60: each clause is met by an instruction that changes what it speaks of. -/
theorem witness_whoWritesWhat :
    changes (.jmpRel8 5) State.reset (fun s => s.ip) = true ∧
    changes (.movSregEw .cs (.reg .ax)) (withRegs 1 0 0 0) (fun s => s.segs.cs) = true ∧
    changes (.movSregEw .es (.reg .ax)) (withRegs 1 0 0 0) (fun s => s.segs.es) = true ∧
    changes (.movSregEw .ds (.reg .ax)) (withRegs 1 0 0 0) (fun s => s.segs.ds) = true ∧
    changes (.movSregEw .ss (.reg .ax)) (withRegs 1 0 0 0) (fun s => s.segs.ss) = true ∧
    changes .std State.reset (fun s => s.flags.DF) = true ∧
    changes .popf { State.reset with mem := [(1, 0x03)] } (fun s => (s.flags.TF, s.flags.IF)) = true ∧
    changes .sti State.reset (fun s => s.flags.IF) = true ∧
    changes .int3 { State.reset with flags := { State.reset.flags with TF := true, IF := true } }
      (fun s => (s.segs.cs, s.flags.TF, s.flags.IF)) = true ∧
    changes .outDxAl State.reset (fun s => s.ioLog) = true ∧
    changes .hlt State.reset (fun s => s.halted) = true := by decide

end Sys2Proof.Tests
end

section
/-! Each byte register is one half of a word register (10_state.md R31, R32): the register file's byte reads
and writes said as reads and writes of that word. -/

namespace Sys2Proof.Machine

open Sys2Proof

/-- The word register that holds a byte register (R31). -/
def wordReg : Reg8 → Reg
  | .al | .ah => .ax
  | .cl | .ch => .cx
  | .dl | .dh => .dx
  | .bl | .bh => .bx

/-- Whether a byte register is the high half of its word (R31). -/
def isHighHalf : Reg8 → Bool
  | .al | .cl | .dl | .bl => false
  | .ah | .ch | .dh | .bh => true

/-- The table of R31, row by row, is `wordReg` and `isHighHalf`. -/
theorem eq_wordReg_isHighHalf_of_mem {i : Reg8} {x : Reg} {high : Bool}
    (h : (i, x, high) ∈ [(Reg8.al, Reg.ax, false), (.cl, .cx, false), (.dl, .dx, false), (.bl, .bx, false),
      (.ah, .ax, true), (.ch, .cx, true), (.dh, .dx, true), (.bh, .bx, true)]) :
    x = wordReg i ∧ high = isHighHalf i := by
  cases i <;> simpa [wordReg, isHighHalf] using h

/-- The byte of a word in its high or its low half. -/
def halfOf (high : Bool) (w : Word) : Byte := w.extractLsb' (if high then 8 else 0) 8

/-- The word with one half replaced. -/
def withHalf (high : Bool) (v : Byte) (w : Word) : Word :=
  if high then v ++ w.extractLsb' 0 8 else w.extractLsb' 8 8 ++ v

theorem loByte_eq_extractLsb' (w : Word) : loByte w = w.extractLsb' 0 8 :=
  BitVec.setWidth_eq_extractLsb' (by decide)

theorem hiByte_eq_extractLsb' (w : Word) : hiByte w = w.extractLsb' 8 8 := by
  unfold hiByte
  ext k hk
  simp

/-- R31: a byte register is read as a half of its word register. -/
theorem Regs.get8_eq_halfOf (r : Regs) (i : Reg8) : r.get8 i = halfOf (isHighHalf i) (r.get (wordReg i)) := by
  cases i
  case al | cl | dl | bl => exact loByte_eq_extractLsb' _
  case ah | ch | dh | bh => exact hiByte_eq_extractLsb' _

/-- R32: a byte register is written by writing its word register with that half replaced. -/
theorem Regs.set8_eq_set (r : Regs) (i : Reg8) (v : Byte) :
    r.set8 i v = r.set (wordReg i) (withHalf (isHighHalf i) v (r.get (wordReg i))) := by
  cases i
  case al | cl | dl | bl =>
    simp [Regs.set8, Regs.set, Regs.get, wordReg, isHighHalf, withHalf, mkWord, hiByte_eq_extractLsb']
  case ah | ch | dh | bh =>
    simp [Regs.set8, Regs.set, Regs.get, wordReg, isHighHalf, withHalf, mkWord, loByte_eq_extractLsb']

/-- Settles O13: a byte read and a byte write are a read and a write of the word register, where the rules of
the word registers apply. -/
theorem byteAliasing : Obligations.ByteAliasing := by
  intro i x high hrow r v w
  obtain ⟨rfl, rfl⟩ := eq_wordReg_isHighHalf_of_mem hrow
  refine ⟨r.get8_eq_halfOf i, ?_, fun y hy => ?_, r.get8_set8_self i v, fun j hj => ?_, ?_⟩
  · rw [Regs.set8_eq_set, Regs.get_set_self]
    rfl
  · rw [Regs.set8_eq_set, Regs.get_set, if_neg hy]
  · rw [Regs.get8_set8, if_neg hj]
  · rw [Regs.get8_eq_halfOf, Regs.get_set_self]
    rfl

end Sys2Proof.Machine
end

section
/-! Data transfer (40_data_transfer.md): what a write of an operand, an exchange and a move of the flags' low byte
do, and the statements of that file. -/

namespace Sys2Proof.Machine

open Sys2Proof Sys2Proof.Claims

/-! ## Moves (R201 to R204) -/

/-- R200: a write of a byte operand puts the byte at its place; no flag changes and no free value is taken. -/
theorem wr8_moves (s : State) (l : Loc Reg8) (v : Byte) :
    OnlyData s (s.wr8 l v) ∧ (s.wr8 l v).flags = s.flags ∧ (s.wr8 l v).draws = s.draws ∧
      PutsByte s (s.wr8 l v) v l := by
  obtain ⟨honly, hputs, hflags, hdraws⟩ := wr8_puts s s.flags s.draws l v
  exact ⟨honly, hflags, hdraws, hputs⟩

/-- R200: a write of a word operand puts the word at its place; no flag changes and no free value is taken. -/
theorem wr16_moves (s : State) (l : Loc Reg) (v : Word) :
    OnlyData s (s.wr16 l v) ∧ (s.wr16 l v).flags = s.flags ∧ (s.wr16 l v).draws = s.draws ∧
      PutsWord s (s.wr16 l v) v l := by
  obtain ⟨honly, hputs, hflags, hdraws⟩ := wr16_puts s s.flags s.draws l v
  exact ⟨honly, hflags, hdraws, hputs⟩

/-- Settles O34: each form runs as one write of its value at its place. -/
theorem moveForms : Obligations.MoveForms := by
  intro s e w g h ib iw off
  constructor
  · intro i l v hrow
    have hexec : exec i s = .next (s.wr8 l v) := by
      simp only [List.mem_cons, Prod.mk.injEq, List.not_mem_nil, or_false] at hrow
      obtain ⟨rfl, rfl, rfl⟩ | ⟨rfl, rfl, rfl⟩ | ⟨rfl, rfl, rfl⟩ | ⟨rfl, rfl, rfl⟩ | ⟨rfl, rfl, rfl⟩ |
        ⟨rfl, rfl, rfl⟩ := hrow <;> rfl
    exact ⟨_, hexec, wr8_moves s l v⟩
  · intro i l v hrow
    have hexec : exec i s = .next (s.wr16 l v) := by
      simp only [List.mem_cons, Prod.mk.injEq, List.not_mem_nil, or_false] at hrow
      obtain ⟨rfl, rfl, rfl⟩ | ⟨rfl, rfl, rfl⟩ | ⟨rfl, rfl, rfl⟩ | ⟨rfl, rfl, rfl⟩ | ⟨rfl, rfl, rfl⟩ |
        ⟨rfl, rfl, rfl⟩ := hrow <;> rfl
    exact ⟨_, hexec, wr16_moves s l v⟩

/-! ## The low byte of the flags (R222, R223) -/

/-- R36: the reserved bits of the low byte of the image. -/
theorem Flags.loByte_image_reserved (f : Flags) :
    (loByte f.image).getLsbD 1 = true ∧ (loByte f.image).getLsbD 3 = false ∧
      (loByte f.image).getLsbD 5 = false := by
  simp [loByte, Flags.image, flagBit]

/-- R223: after a write of the low byte of the image, that byte reads back with bits 1, 3 and 5 as R36 fixes
them. -/
theorem Flags.setLowByte_image (f : Flags) (v : Byte) :
    (f.setLowByte v).image.setWidth 8 = (v &&& 0xD5) ||| 0x02 := by
  ext i hi
  interval_cases i <;> simp [Flags.image, flagBit, Flags.setLowByte]

/-- Settles O38. -/
theorem flagTransfers : Obligations.FlagTransfers := by
  intro s
  constructor
  · refine ⟨s.setReg8 .ah (loByte s.flags.image), rfl, rfl, writesReg8_set rfl, ?_⟩
    rw [State.setReg8_regs, Regs.get8_set8_self]
    exact s.flags.loByte_image_reserved
  · exact ⟨_, rfl, rfl, ⟨rfl, rfl, rfl⟩, rfl, s.flags.setLowByte_image (s.regs.get8 .ah)⟩

/-! ## Exchanges (R213 to R215) -/

/-- Two word registers exchanged, as XCHG writes them (R213, R214). -/
def Regs.swap (r : Regs) (a b : Reg) : Regs := (r.set a (r.get b)).set b (r.get a)

/-- Two byte registers exchanged (R213). -/
def Regs.swap8 (r : Regs) (a b : Reg8) : Regs := (r.set8 a (r.get8 b)).set8 b (r.get8 a)

theorem Regs.get_swap (r : Regs) (a b x : Reg) :
    (r.swap a b).get x = if x = b then r.get a else if x = a then r.get b else r.get x := by
  rw [Regs.swap, Regs.get_set, Regs.get_set]

theorem Regs.get8_swap8 (r : Regs) (a b x : Reg8) :
    (r.swap8 a b).get8 x = if x = b then r.get8 a else if x = a then r.get8 b else r.get8 x := by
  rw [Regs.swap8, Regs.get8_set8, Regs.get8_set8]

@[simp] theorem Regs.get_swap_right (r : Regs) (a b : Reg) : (r.swap a b).get b = r.get a := by
  simp [Regs.get_swap]

@[simp] theorem Regs.get_swap_left (r : Regs) (a b : Reg) : (r.swap a b).get a = r.get b := by
  rw [Regs.get_swap]
  split
  · next h => rw [h]
  · rw [if_pos rfl]

@[simp] theorem Regs.get8_swap8_right (r : Regs) (a b : Reg8) : (r.swap8 a b).get8 b = r.get8 a := by
  simp [Regs.get8_swap8]

@[simp] theorem Regs.get8_swap8_left (r : Regs) (a b : Reg8) : (r.swap8 a b).get8 a = r.get8 b := by
  rw [Regs.get8_swap8]
  split
  · next h => rw [h]
  · rw [if_pos rfl]

theorem Regs.get_swap_other (r : Regs) {a b x : Reg} (h : x ∉ [a, b]) : (r.swap a b).get x = r.get x := by
  simp only [List.mem_cons, List.not_mem_nil, or_false, not_or] at h
  rw [Regs.get_swap, if_neg h.2, if_neg h.1]

/-- An exchange of a register with itself changes nothing (R215). -/
theorem Regs.swap_self (r : Regs) (a : Reg) : r.swap a a = r := by
  cases a <;> rfl

/-- R215: NOP is the exchange of AX with itself. -/
theorem State.swapAx_ax (s : State) : s.swapAx .ax = s :=
  congrArg (fun r => { s with regs := r }) (s.regs.swap_self .ax)

/-- A write of a register is a change of data only. -/
theorem onlyData_setReg {s t : State} (h : OnlyData s t) (r : Reg) (v : Word) : OnlyData s (t.setReg r v) :=
  congrArg (State.setReg · r v) h

/-- A write of a byte register is a change of data only. -/
theorem onlyData_setReg8 {s t : State} (h : OnlyData s t) (r : Reg8) (v : Byte) : OnlyData s (t.setReg8 r v) :=
  congrArg (State.setReg8 · r v) h

/-- Settles O39: between registers `Regs.swap` or `Regs.swap8` is written; with memory the register's old value is
stored first, which leaves the registers alone, then the register takes the value read before. -/
theorem exchangeForms : Obligations.ExchangeForms := by
  intro s g g' h h' m
  refine ⟨?_, ?_, ?_, ?_, ?_⟩
  · refine ⟨{ s with regs := s.regs.swap8 g' g }, rfl, rfl, s.regs.get8_swap8_right g' g,
      s.regs.get8_swap8_left g' g, fun x hg hg' => ?_, fun x hx => ?_⟩
    · simp [Regs.get8_swap8, hg, hg']
    · exact (get_set8 _ _ _ _ hx).trans (get_set8 _ _ _ _ hx)
  · exact ⟨{ s with regs := s.regs.swap h' h }, rfl, rfl, s.regs.get_swap_right h' h, s.regs.get_swap_left h' h,
      fun x hx => s.regs.get_swap_other (by simpa [and_comm] using hx)⟩
  · obtain ⟨honly, hflags, hdraws, hregs, hstores, hqueue⟩ :=
      wr8_moves s (s.locate (.mem m)) (s.regs.get8 g)
    refine ⟨_, _, rfl, ?_, hflags, hdraws, rfl, hstores, hqueue, writesReg8_set ?_⟩
    · exact onlyData_setReg8 honly _ _
    · rw [State.setReg8_regs, hregs]
      rfl
  · obtain ⟨honly, hflags, hdraws, hregs, hstores, hqueue⟩ :=
      wr16_moves s (s.locate (.mem m)) (s.regs.get h)
    refine ⟨_, _, rfl, ?_, hflags, hdraws, rfl, hstores, hqueue, writesReg_set _ _ _ _ ?_⟩
    · exact onlyData_setReg honly _ _
    · rw [State.setReg_regs, hregs]
      rfl
  · intro i x hrow
    have hexec : exec i s = .next (s.swapAx x) := by
      simp only [List.mem_cons, Prod.mk.injEq, List.not_mem_nil, or_false] at hrow
      obtain ⟨rfl, rfl⟩ | hrow := hrow
      · exact congrArg _ s.swapAx_ax.symm
      · obtain ⟨rfl, rfl⟩ | ⟨rfl, rfl⟩ | ⟨rfl, rfl⟩ | ⟨rfl, rfl⟩ | ⟨rfl, rfl⟩ | ⟨rfl, rfl⟩ | ⟨rfl, rfl⟩ := hrow <;>
          rfl
    exact ⟨_, hexec, rfl, s.regs.get_swap_left .ax x, s.regs.get_swap_right .ax x,
      fun y hy => s.regs.get_swap_other hy⟩

/-! ## Table lookup and addresses (R218, R219, 46_undocumented.md R445) -/

/-- A zero-extended byte is added modulo 2^16. -/
theorem add_zext16 (w : Word) (b : Byte) : w + zext16 b = BitVec.ofNat 16 (w.toNat + b.toNat) := by
  apply BitVec.eq_of_toNat_eq
  simp [zext16]

/-- Settles O41: each of the three writes one register. -/
theorem tableLookupAndAddress : Obligations.TableLookupAndAddress := by
  intro s g m
  refine ⟨⟨_, rfl, rfl, ?_⟩, ⟨_, rfl, rfl, writesReg_set _ _ _ _ rfl⟩, ⟨_, rfl, rfl, writesReg8_set rfl⟩⟩
  rw [← add_zext16]
  exact writesReg8_set rfl

end Sys2Proof.Machine
end

section
/-! Arithmetic (41_arithmetic.md): INC and DEC, the decimal and ASCII adjustments, AAM, AAD and the sign
extensions. -/

namespace Sys2Proof.Machine

open Sys2Proof Sys2Proof.Claims

/-! ## INC and DEC (R257, R263) -/

/-- Without a carry in, R251's sum is that of bit vectors. -/
theorem addResult_eq_add {n : Nat} (a b : BitVec n) : addResult a b false = a + b := by
  apply BitVec.eq_of_toNat_eq
  simp [addResult]

/-- Without a borrow in, R252's difference is that of bit vectors. -/
theorem subResult_eq_sub {n : Nat} (a b : BitVec n) : subResult a b false = a - b := by
  apply BitVec.eq_of_toInt_eq
  rw [subResult, BitVec.toInt_ofInt, BitVec.toInt_sub, BitVec.toInt_eq_toNat_bmod, BitVec.toInt_eq_toNat_bmod]
  simp

theorem State.inc8_eq (s : State) (e : RM Reg8) :
    s.inc8 e = (s.setFlags (incFlags (s.rdE8 e) s.flags)).wr8 (s.locate e) (s.rdE8 e + 1) := by
  rw [inc8, addResult_eq_add]
  rfl

theorem State.dec8_eq (s : State) (e : RM Reg8) :
    s.dec8 e = (s.setFlags (decFlags (s.rdE8 e) s.flags)).wr8 (s.locate e) (s.rdE8 e - 1) := by
  rw [dec8, subResult_eq_sub]
  rfl

theorem State.inc16_eq (s : State) (e : RM Reg) :
    s.inc16 e = (s.setFlags (incFlags (s.rdE16 e) s.flags)).wr16 (s.locate e) (s.rdE16 e + 1) := by
  rw [inc16, addResult_eq_add]
  rfl

theorem State.dec16_eq (s : State) (e : RM Reg) :
    s.dec16 e = (s.setFlags (decFlags (s.rdE16 e) s.flags)).wr16 (s.locate e) (s.rdE16 e - 1) := by
  rw [dec16, subResult_eq_sub]
  rfl

/-- A byte is put at its place after flags of which CF is put back. -/
theorem wr8_keepsCarry {s t : State} {f : Flags} {l : Loc Reg8} {v : Byte}
    (ht : t = (s.setFlags { f with CF := s.flags.CF }).wr8 l v) (hsys : SystemFlagsKept s.flags f) :
    OnlyData s t ∧ SystemFlagsKept s.flags t.flags ∧ PutsByte s t v l ∧
      t.flags = { f with CF := s.flags.CF } := by
  subst ht
  obtain ⟨honly, hputs, hflags, -⟩ := wr8_puts s { f with CF := s.flags.CF } s.draws l v
  exact ⟨honly, hflags.symm ▸ hsys, hputs, hflags⟩

/-- A word is put at its place after flags of which CF is put back. -/
theorem wr16_keepsCarry {s t : State} {f : Flags} {l : Loc Reg} {v : Word}
    (ht : t = (s.setFlags { f with CF := s.flags.CF }).wr16 l v) (hsys : SystemFlagsKept s.flags f) :
    OnlyData s t ∧ SystemFlagsKept s.flags t.flags ∧ PutsWord s t v l ∧
      t.flags = { f with CF := s.flags.CF } := by
  subst ht
  obtain ⟨honly, hputs, hflags, -⟩ := wr16_puts s { f with CF := s.flags.CF } s.draws l v
  exact ⟨honly, hflags.symm ▸ hsys, hputs, hflags⟩

/-- R251 for the addend 1. -/
theorem addFlags_one {n : Nat} (a : BitVec n) (f : Flags) :
    AddHolds a 1 false (a + 1) (addFlags a 1 false f) ∧ (addFlags a 1 false f).AF = auxiliary a 1 (a + 1) ∧
      SystemFlagsKept f (addFlags a 1 false f) :=
  addResult_eq_add a 1 ▸ addHolds_addFlags a 1 false f

/-- R252 for the subtrahend 1. -/
theorem subFlags_one {n : Nat} (a : BitVec n) (f : Flags) :
    SubHolds a 1 false (a - 1) (subFlags a 1 false f) ∧ (subFlags a 1 false f).AF = auxiliary a 1 (a - 1) ∧
      SystemFlagsKept f (subFlags a 1 false f) :=
  subResult_eq_sub a 1 ▸ subHolds_subFlags a 1 false f

/-- Settles O25: each form writes its operand plus or minus 1 after the flags, of which CF is put back. -/
theorem incrementDecrementForms : Obligations.IncrementDecrementForms := by
  intro s e w g
  refine ⟨?_, ?_, fun i x hrow => ?_, fun i x hrow => ?_⟩
  · obtain ⟨hadd, haf, hsys⟩ := addFlags_one (s.rdE8 e) s.flags
    obtain ⟨honly, hkept, hputs, hflags⟩ := wr8_keepsCarry (s.inc8_eq e) hsys
    exact ⟨_, _, rfl, honly, hkept, hputs, hflags, hadd, haf⟩
  · obtain ⟨hsub, haf, hsys⟩ := subFlags_one (s.rdE8 e) s.flags
    obtain ⟨honly, hkept, hputs, hflags⟩ := wr8_keepsCarry (s.dec8_eq e) hsys
    exact ⟨_, _, rfl, honly, hkept, hputs, hflags, hsub, haf⟩
  · have hexec : exec i s = .next (s.inc16 x) := by
      simp only [List.mem_cons, Prod.mk.injEq, List.not_mem_nil, or_false] at hrow
      obtain ⟨rfl, rfl⟩ | ⟨rfl, rfl⟩ := hrow <;> rfl
    obtain ⟨hadd, haf, hsys⟩ := addFlags_one (s.rdE16 x) s.flags
    obtain ⟨honly, hkept, hputs, hflags⟩ := wr16_keepsCarry (s.inc16_eq x) hsys
    exact ⟨_, _, hexec, honly, hkept, hputs, hflags, hadd, haf⟩
  · have hexec : exec i s = .next (s.dec16 x) := by
      simp only [List.mem_cons, Prod.mk.injEq, List.not_mem_nil, or_false] at hrow
      obtain ⟨rfl, rfl⟩ | ⟨rfl, rfl⟩ := hrow <;> rfl
    obtain ⟨hsub, haf, hsys⟩ := subFlags_one (s.rdE16 x) s.flags
    obtain ⟨honly, hkept, hputs, hflags⟩ := wr16_keepsCarry (s.dec16_eq x) hsys
    exact ⟨_, _, hexec, honly, hkept, hputs, hflags, hsub, haf⟩

/-! ## A register and the flags written -/

/-- A write of one word register leaves the others as they were. -/
theorem keepsRegsBut_set {s t : State} {r : Reg} {v : Word} (h : t.regs = s.regs.set r v) :
    KeepsRegsBut [r] s t := by
  intro r' hr'
  exact (writesReg_set s t r v h).2 r' (by simpa using hr')

/-- An instruction that ends by writing a word register and the flags and taking free values changes nothing
else. -/
theorem next_setReg_setFlags {i : Instr} {s : State} {r : Reg} {v : Word} {f : Flags} {k : Nat}
    (h : exec i s = .next (((s.setReg r v).setFlags f).advance k)) :
    ∃ t, exec i s = .next t ∧ OnlyData s t ∧ NoStore s t ∧ KeepsRegsBut [r] s t ∧
      t.regs = s.regs.set r v ∧ t.flags = f :=
  ⟨_, h, rfl, noStore_of rfl rfl rfl rfl, keepsRegsBut_set rfl, rfl, rfl⟩

/-- An instruction that ends by writing a byte register and the flags and taking free values changes nothing
else. -/
theorem next_setReg8_setFlags {i : Instr} {s : State} {r : Reg8} {v : Byte} {f : Flags} {k : Nat}
    (h : exec i s = .next (((s.setReg8 r v).setFlags f).advance k)) :
    ∃ t, exec i s = .next t ∧ OnlyData s t ∧ NoStore s t ∧ WritesReg8 s t r (t.regs.get8 r) ∧
      t.regs.get8 r = v ∧ t.flags = f := by
  have hwrites : WritesReg8 s (((s.setReg8 r v).setFlags f).advance k) r v := writesReg8_set rfl
  refine ⟨_, h, rfl, noStore_of rfl rfl rfl rfl, ?_, hwrites.1, rfl⟩
  rw [hwrites.1]
  exact hwrites

/-! ## Decimal and ASCII adjustment (R258, R259, R265, R266) -/

/-- The low digit of AL is its low nibble. -/
theorem digitAdjusts_eq (al : Byte) (af : Bool) :
    digitAdjusts al af = (decide (9 < (al &&& 0x0F).toNat) || af) := by
  have hnibble : (al &&& 0x0F).toNat = al.toNat % 16 := Nat.and_two_pow_sub_one_eq_mod al.toNat 4
  rw [digitAdjusts, hnibble]

/-- R258: AL after AAA. -/
theorem loByte_aaaResult (ax : Word) (af : Bool) :
    loByte (aaaResult ax af) = (if digitAdjusts (loByte ax) af then loByte ax + 6 else loByte ax) &&& 0x0F := by
  unfold aaaResult
  split <;> exact loByte_mkWord _ _

/-- R258: AH after AAA. -/
theorem hiByte_aaaResult (ax : Word) (af : Bool) :
    hiByte (aaaResult ax af) = if digitAdjusts (loByte ax) af then hiByte ax + 1 else hiByte ax := by
  unfold aaaResult
  split <;> exact hiByte_mkWord _ _

/-- R265: AL after AAS. -/
theorem loByte_aasResult (ax : Word) (af : Bool) :
    loByte (aasResult ax af) = (if digitAdjusts (loByte ax) af then loByte ax - 6 else loByte ax) &&& 0x0F := by
  unfold aasResult
  split <;> exact loByte_mkWord _ _

/-- R265: AH after AAS. -/
theorem hiByte_aasResult (ax : Word) (af : Bool) :
    hiByte (aasResult ax af) = if digitAdjusts (loByte ax) af then hiByte ax - 1 else hiByte ax := by
  unfold aasResult
  split <;> exact hiByte_mkWord _ _

/-- R259: AL after DAA as a number. -/
theorem toNat_daaResult (al : Byte) (af cf : Bool) :
    (daaResult al af cf).toNat =
      (al.toNat + (if digitAdjusts al af then 6 else 0) + (if tensAdjusts al cf then 0x60 else 0)) % 256 := by
  unfold daaResult
  split <;> split <;> simp [Nat.mod_eq_of_lt al.isLt]

/-- R266: AL after DAS as a number. -/
theorem toNat_dasResult (al : Byte) (af cf : Bool) :
    ((dasResult al af cf).toNat : Int) =
      (al.toNat - (if digitAdjusts al af then 6 else 0) - (if tensAdjusts al cf then 0x60 else 0)) % 256 := by
  unfold dasResult
  split <;> split <;> simp only [BitVec.toNat_sub, BitVec.toNat_ofNat] <;> omega

/-- R266: CF after DAS is 1 when the second adjustment applies or the first one borrows. -/
theorem dasFlags_CF (al : Byte) (ofl : Bool) (f : Flags) :
    (dasFlags al ofl f).CF =
      (tensAdjusts al f.CF || (digitAdjusts al f.AF && decide (al.toNat < 6))) := by
  show (if tensAdjusts al f.CF then true else _) = _
  unfold tensAdjusts
  cases f.CF <;> cases decide (0x99 < al.toNat) <;> simp

/-- Settles O32: each adjustment writes AX or AL and the flags; the results are said of the bytes above. -/
theorem decimalAdjustForms : Obligations.DecimalAdjustForms := by
  intro s
  refine ⟨_, _, _, rfl, rfl, rfl, ?_⟩
  rw [← digitAdjusts_eq]
  refine ⟨?_, ?_, ?_, ?_⟩
  · obtain ⟨t, hexec, honly, hstore, hkeep, hregs, hflags⟩ := next_setReg_setFlags (i := .aaa) (s := s) rfl
    refine ⟨t, hexec, honly, hstore, hkeep, ?_⟩
    rw [hregs, hflags]
    exact ⟨⟨rfl, rfl, rfl⟩, rfl, rfl, loByte_aaaResult _ _, hiByte_aaaResult _ _⟩
  · obtain ⟨t, hexec, honly, hstore, hkeep, hregs, hflags⟩ := next_setReg_setFlags (i := .aas) (s := s) rfl
    refine ⟨t, hexec, honly, hstore, hkeep, ?_⟩
    rw [hregs, hflags]
    exact ⟨⟨rfl, rfl, rfl⟩, rfl, rfl, loByte_aasResult _ _, hiByte_aasResult _ _⟩
  · obtain ⟨t, hexec, honly, hstore, hwrites, hal, hflags⟩ := next_setReg8_setFlags (i := .daa) (s := s) rfl
    refine ⟨t, hexec, honly, hstore, hwrites, ?_⟩
    rw [hal, hflags]
    exact ⟨⟨rfl, rfl, rfl⟩, rfl, rfl, resultFlags_zsp _ _, toNat_daaResult _ _ _⟩
  · obtain ⟨t, hexec, honly, hstore, hwrites, hal, hflags⟩ := next_setReg8_setFlags (i := .das) (s := s) rfl
    refine ⟨t, hexec, honly, hstore, hwrites, ?_⟩
    rw [hal, hflags]
    exact ⟨⟨rfl, rfl, rfl⟩, rfl, dasFlags_CF _ _ _, resultFlags_zsp _ _, toNat_dasResult _ _ _⟩

/-! ## AAM, AAD and the sign extensions (R269, R272 to R274) -/

/-- AL is the low byte of a word written to AX (R31). -/
theorem get8_al_set_mkWord (r : Regs) (ah al : Byte) : (r.set .ax (mkWord ah al)).get8 .al = al :=
  loByte_mkWord ah al

/-- AH is the high byte of a word written to AX (R31). -/
theorem get8_ah_set_mkWord (r : Regs) (ah al : Byte) : (r.set .ax (mkWord ah al)).get8 .ah = ah :=
  hiByte_mkWord ah al

/-- R272: AAM with a base other than 0. -/
theorem exec_aamIb_of_ne_zero {s : State} {ib : Byte} (hib : ib ≠ 0) :
    exec (.aamIb ib) s =
      .next (((s.setReg .ax (mkWord (s.regs.get8 .al / ib) (s.regs.get8 .al % ib))).setFlags
        (aamFlags (s.regs.get8 .al % ib) (s.freeBit 0) (s.freeBit 1) (s.freeBit 2) s.flags)).advance 3) :=
  if_neg hib

/-- R269: AAD under the variant `intel`. -/
theorem exec_aadIb_of_intel {s : State} (hintel : s.cfg.cpuVariant = .intel) (ib : Byte) :
    exec (.aadIb ib) s =
      .next (((s.setReg .ax (mkWord 0#8 (aadResult (s.regs.get8 .ah) (s.regs.get8 .al) ib))).setFlags
        (aamFlags (aadResult (s.regs.get8 .ah) (s.regs.get8 .al) ib) (s.freeBit 0) (s.freeBit 1)
          (s.freeBit 2) s.flags)).advance 3) := by
  show execAadIb ib s = _
  rw [execAadIb, hintel]

/-- R274: the word that CWD puts above AX is AX's sign. -/
theorem toInt_sign_append (w : Word) : ((if w.msb then 0xFFFF#16 else 0#16) ++ w).toInt = w.toInt := by
  have hext : (if w.msb then 0xFFFF#16 else 0#16) ++ w = w.signExtend 32 :=
    (BitVec.signExtend_eq_append_of_le (by decide)).symm
  rw [hext, BitVec.toInt_signExtend_of_le (by decide)]

/-- Settles O33: AAM and AAD write AX whole with the flags of the new AL; CBW and CWD write one register. -/
theorem asciiBaseAndSignExtension : Obligations.AsciiBaseAndSignExtension := by
  intro s ib
  refine ⟨fun hib => ?_, fun hintel => ?_, ?_, ?_⟩
  · obtain ⟨t, hexec, honly, hstore, hkeep, hregs, hflags⟩ := next_setReg_setFlags (exec_aamIb_of_ne_zero hib)
    refine ⟨t, hexec, honly, hstore, hkeep, ?_⟩
    rw [hregs, hflags, get8_al_set_mkWord, get8_ah_set_mkWord]
    exact ⟨⟨rfl, rfl, rfl⟩, resultFlags_zsp _ _, BitVec.toNat_udiv, BitVec.toNat_umod⟩
  · obtain ⟨t, hexec, honly, hstore, hkeep, hregs, hflags⟩ := next_setReg_setFlags (exec_aadIb_of_intel hintel ib)
    refine ⟨t, hexec, honly, hstore, hkeep, ?_⟩
    rw [hregs, hflags, get8_al_set_mkWord, get8_ah_set_mkWord]
    exact ⟨⟨rfl, rfl, rfl⟩, resultFlags_zsp _ _, rfl, BitVec.toNat_ofNat _ _⟩
  · exact ⟨_, rfl, rfl, keepsRegsBut_set rfl, BitVec.toInt_signExtend_of_le (by decide)⟩
  · exact ⟨_, rfl, rfl, keepsRegsBut_set rfl, toInt_sign_append s.regs.ax⟩

end Sys2Proof.Machine
end

section
/-! Logic (42_logic.md, with NEG of 41_arithmetic.md): the flags of a subtraction from 0, NEG and NOT, and the forms
of TEST. -/

namespace Sys2Proof.Machine

open Sys2Proof Sys2Proof.Claims

/-! ## NEG (41_arithmetic.md R264) and NOT (42_logic.md R301) -/

/-- A number and its negative are both negative only for the most negative number. -/
theorem msb_and_neg {n : Nat} (hn : 0 < n) (a : BitVec n) : (a &&& -a).msb = decide (a = BitVec.intMin n) := by
  rw [BitVec.msb_and, BitVec.msb_neg]
  by_cases hmin : a = BitVec.intMin n
  · simp [hmin, BitVec.msb_intMin, hn]
  · cases hmsb : a.msb
    · simp [hmin]
    · have hzero : a ≠ 0#n := by
        rintro rfl
        simp at hmsb
      simp [hmin, hzero]

/-- The low `k` bits are not all 0 exactly when one of them is 1. -/
theorem exists_getLsbD_iff_mod {n : Nat} (a : BitVec n) (k : Nat) :
    (∃ j < k, a.getLsbD j = true) ↔ a.toNat % 2 ^ k ≠ 0 := by
  constructor
  · rintro ⟨j, hj, hbit⟩ hmod
    have hlow := Nat.testBit_mod_two_pow a.toNat k j
    rw [hmod] at hlow
    simp [hj, BitVec.testBit_toNat, hbit] at hlow
  · intro hmod
    obtain ⟨j, hbit⟩ := Nat.exists_testBit_of_ne_zero hmod
    rw [Nat.testBit_mod_two_pow, Bool.and_eq_true, decide_eq_true_eq] at hbit
    exact ⟨j, hbit⟩

/-- A number and its negative differ in bit 4 exactly when the low four bits are not all 0. -/
theorem auxiliary_zero_neg {n : Nat} (hn : 4 < n) (a : BitVec n) :
    auxiliary 0#n a (-a) = decide (a.toNat % 16 ≠ 0) := by
  rw [auxiliary, BitVec.zero_xor, BitVec.getLsbD_xor, BitVec.getLsbD_neg, decide_eq_true hn, Bool.true_and,
    ← Bool.xor_assoc, Bool.xor_self, Bool.false_xor]
  exact decide_eq_decide.mpr (exists_getLsbD_iff_mod a 4)

/-- R252 for the minuend 0: the result. -/
theorem subResult_zero {n : Nat} (a : BitVec n) : subResult 0#n a false = -a := by
  rw [subResult_eq_sub, BitVec.zero_sub]

/-- The flags of a negation (R264). -/
def NegateHolds {n : Nat} (a : BitVec n) (f : Flags) : Prop :=
  ResultFlags (-a) f ∧ f.CF = decide (a ≠ 0) ∧ f.OF = decide (a = BitVec.intMin n) ∧
    f.AF = decide (a.toNat % 16 ≠ 0)

/-- R252 for the minuend 0: the flags. -/
theorem subFlags_zero {n : Nat} (hn : 4 < n) (a : BitVec n) (f : Flags) :
    SystemFlagsKept f (subFlags 0#n a false f) ∧ NegateHolds a (subFlags 0#n a false f) := by
  obtain ⟨⟨-, hcf, hof, hres⟩, haf, hsys⟩ := subHolds_subFlags 0#n a false f
  rw [subResult_zero] at hof hres haf
  refine ⟨hsys, hres, ?_, ?_, ?_⟩
  · rw [hcf, decide_eq_decide, Ne, ← BitVec.toNat_inj]
    simp [Nat.pos_iff_ne_zero]
  · rw [hof, BitVec.zero_xor, BitVec.zero_xor, msb_and_neg (by omega)]
  · rw [haf, auxiliary_zero_neg hn]

/-- R264: NEG of a byte writes the negative after the flags. -/
theorem exec_negEb (s : State) (e : RM Reg8) :
    exec (.negEb e) s =
      .next ((s.setFlags (subFlags 0#8 (s.rdE8 e) false s.flags)).wr8 (s.locate e) (-s.rdE8 e)) := by
  rw [← subResult_zero]
  rfl

/-- R264: NEG of a word writes the negative after the flags. -/
theorem exec_negEv (s : State) (w : RM Reg) :
    exec (.negEv w) s =
      .next ((s.setFlags (subFlags 0#16 (s.rdE16 w) false s.flags)).wr16 (s.locate w) (-s.rdE16 w)) := by
  rw [← subResult_zero]
  rfl

/-- Settles O26: NEG writes the negative of its operand after the flags of the subtraction from 0; NOT writes the
complement and nothing else. -/
theorem negateAndNot : Obligations.NegateAndNot := by
  intro s e w
  refine ⟨?_, ?_, ?_, ?_⟩
  · obtain ⟨hsys, hneg⟩ := subFlags_zero (by decide) (s.rdE8 e) s.flags
    obtain ⟨honly, hputs, hflags, -⟩ :=
      wr8_puts s (subFlags 0#8 (s.rdE8 e) false s.flags) s.draws (s.locate e) (-s.rdE8 e)
    rw [← hflags] at hsys hneg
    exact ⟨_, exec_negEb s e, honly, hsys, hputs, hneg⟩
  · obtain ⟨hsys, hneg⟩ := subFlags_zero (by decide) (s.rdE16 w) s.flags
    obtain ⟨honly, hputs, hflags, -⟩ :=
      wr16_puts s (subFlags 0#16 (s.rdE16 w) false s.flags) s.draws (s.locate w) (-s.rdE16 w)
    rw [← hflags] at hsys hneg
    exact ⟨_, exec_negEv s w, honly, hsys, hputs, hneg⟩
  · rw [BitVec.allOnes_xor]
    exact ⟨_, rfl, wr8_moves s (s.locate e) _⟩
  · rw [BitVec.allOnes_xor]
    exact ⟨_, rfl, wr16_moves s (s.locate w) _⟩

/-! ## TEST (42_logic.md R305, 46_undocumented.md R448) -/

/-- R305: TEST changes the flags and the counter of free values only, as R300 says of the conjunction. -/
theorem State.test_setsFlags {n : Nat} (s : State) (a b : BitVec n) :
    s.test a b = { s with flags := (s.test a b).flags, draws := (s.test a b).draws } ∧
      SystemFlagsKept s.flags (s.test a b).flags ∧ LogicHolds (a &&& b) (s.test a b).flags := by
  obtain ⟨hlogic, hsys⟩ := logicHolds_logicFlags (a &&& b) (s.freeBit 0) s.flags
  exact ⟨rfl, hsys, hlogic⟩

/-- R448: F6 /1 under `silicon`. -/
theorem exec_testEbIbF1_of_silicon {s : State} (hundoc : s.cfg.undoc = .silicon) (e : RM Reg8) (imm : Byte) :
    exec (.testEbIbF1 e imm) s = .next (s.test (s.rdE8 e) imm) := by
  show execTestEbIbF1 e imm s = _
  rw [execTestEbIbF1, hundoc]

/-- R448: F7 /1 under `silicon`. -/
theorem exec_testEvIvF1_of_silicon {s : State} (hundoc : s.cfg.undoc = .silicon) (e : RM Reg) (imm : Word) :
    exec (.testEvIvF1 e imm) s = .next (s.test (s.rdE16 e) imm) := by
  show execTestEvIvF1 e imm s = _
  rw [execTestEvIvF1, hundoc]

/-- Settles O27: each form runs as the TEST of its two operands. -/
theorem testForms : Obligations.TestForms := by
  intro s e w g h ib iw
  constructor
  · intro i b a hrow
    have hexec : exec i s = .next (s.test a b) := by
      simp only [List.mem_cons, Prod.mk.injEq, List.not_mem_nil, or_false] at hrow
      obtain (⟨rfl, rfl, rfl⟩ | ⟨rfl, rfl, rfl⟩ | ⟨rfl, rfl, rfl⟩) | ⟨hundoc, rfl, rfl, rfl⟩ := hrow
      · rfl
      · rfl
      · rfl
      · exact exec_testEbIbF1_of_silicon hundoc e _
    exact ⟨_, hexec, s.test_setsFlags a b⟩
  · intro i b a hrow
    have hexec : exec i s = .next (s.test a b) := by
      simp only [List.mem_cons, Prod.mk.injEq, List.not_mem_nil, or_false] at hrow
      obtain (⟨rfl, rfl, rfl⟩ | ⟨rfl, rfl, rfl⟩ | ⟨rfl, rfl, rfl⟩) | ⟨hundoc, rfl, rfl, rfl⟩ := hrow
      · rfl
      · rfl
      · rfl
      · exact exec_testEvIvF1_of_silicon hundoc w _
    exact ⟨_, hexec, s.test_setsFlags a b⟩

end Sys2Proof.Machine
end

section
/-! Control transfer (44_control.md): words pushed one after the other, the words that a return pops, the table of the
conditional jumps and the loops. -/

namespace Sys2Proof.Machine

open Sys2Proof Sys2Proof.Claims

/-! ## Calls (R371 to R374) -/

/-- Words were pushed, the last one first in `ws`: SP is `sp`, nothing but SP, memory, the queue and the schedule
differs, and exactly these words are stored at SS. -/
def Pushed (s t : State) (sp : Word) (ws : List (Word × Word)) : Prop :=
  t = { s with regs := s.regs.set .sp sp, mem := t.mem, queue := t.queue, fills := t.fills } ∧
    StoresWords s t s.segs.ss ws

/-- Pushes leave the segment registers alone. -/
theorem Pushed.segs_eq {s t : State} {sp : Word} {ws : List (Word × Word)} (h : Pushed s t sp ws) :
    t.segs = s.segs := by
  rw [h.1]

/-- No word was pushed yet. -/
theorem pushed_nil (s : State) : Pushed s s s.regs.sp [] :=
  ⟨rfl, fun _ => by simp [storedByte], 0, rfl⟩

/-- A push after pushes stores its word below them. -/
theorem Pushed.push16 {s t : State} {sp : Word} {ws : List (Word × Word)} (h : Pushed s t sp ws) (v : Word) :
    Pushed s (t.push16 v) (sp - 2) ((sp - 2, v) :: ws) := by
  have ⟨honly, hstores⟩ := h
  have hsp : t.regs.sp = sp := congrArg (·.regs.sp) honly
  have hcfg : t.cfg = s.cfg := by rw [honly]
  have hpush := storesWords_push16 t v
  rw [h.segs_eq, hsp] at hpush
  refine ⟨?_, storesWords_cons hstores hcfg hpush⟩
  rw [t.push16_only, hsp, honly]
  rfl

/-- Words pushed and a far jump are a transfer. -/
theorem Pushed.farJump {s t : State} {sp : Word} {ws : List (Word × Word)} (h : Pushed s t sp ws) (sg off : Word) :
    Transferred s (t.farJump sg off) sp ws sg off := by
  have ⟨honly, hstores⟩ := h
  refine ⟨?_, writesReg_set _ _ _ _ (congrArg State.regs honly), ?_, rfl, rfl, hstores⟩
  · rw [honly]
    rfl
  · rw [State.farJump_segs, h.segs_eq]
    rfl

/-- Words pushed and a near jump are a transfer within the code segment. -/
theorem Pushed.jump {s t : State} {sp : Word} {ws : List (Word × Word)} (h : Pushed s t sp ws) (target : Word) :
    Transferred s (t.jump target) sp ws s.segs.cs target := by
  have hsame : t.farJump s.segs.cs target = t.jump target := by
    rw [h.1]
    rfl
  exact hsame ▸ h.farJump s.segs.cs target

/-- R371, R372: a near call pushes the return offset. -/
theorem transferred_callNear (s : State) (target : Word) :
    Transferred s (s.callNear target) (s.regs.sp - 2) [(s.regs.sp - 2, s.ip)] s.segs.cs target :=
  ((pushed_nil s).push16 s.ip).jump target

/-- R373, R374: a far call pushes CS, then the return offset. -/
theorem transferred_callFar (s : State) (sg off : Word) :
    Transferred s (s.callFar sg off) (s.regs.sp - 4) [(s.regs.sp - 4, s.ip), (s.regs.sp - 2, s.segs.cs)] sg off := by
  have hsp : s.regs.sp - 2 - 2 = s.regs.sp - 4 := BitVec.sub_sub ..
  exact hsp ▸ (((pushed_nil s).push16 s.segs.cs).push16 s.ip).farJump sg off

/-! ## Returns (R380 to R383) -/

/-- R380, R381: a near return takes `ip` from the top of the stack. -/
theorem State.retNear_eq (s : State) (n : Word) :
    s.retNear n =
      { s with regs := s.regs.set .sp (s.regs.sp + 2 + n), ip := stackWord s 0, queue := [] } := by
  rw [retNear, pop16_word]
  rfl

/-- R382, R383: a far return takes `ip`, then CS. -/
theorem State.retFar_eq (s : State) (n : Word) :
    s.retFar n =
      { s with
        regs := s.regs.set .sp (s.regs.sp + 4 + n)
        segs := { s.segs with cs := stackWord s 2 }
        ip := stackWord s 0
        queue := [] } := by
  have hsp : s.regs.sp + 4 = s.regs.sp + 2 + 2 := (BitVec.add_assoc s.regs.sp 2 2).symm
  have hcs : stackWord s.pop16.2 0 = stackWord s 2 := stackWord_add s 2 0
  rw [retFar, pop16_word, pop16_word, hcs, hsp]
  rfl

/-- Settles O47: each form runs as one jump, near call or near return. -/
theorem nearTransfers : Obligations.NearTransfers := by
  intro s w rel rb n
  refine ⟨fun i target hrow => ?_, fun i target hrow => ?_, fun i k hrow => ?_⟩
  · simp only [List.mem_cons, Prod.mk.injEq, List.not_mem_nil, or_false] at hrow
    obtain ⟨rfl, rfl⟩ | ⟨rfl, rfl⟩ | ⟨rfl, rfl⟩ := hrow <;> rfl
  · have hexec : exec i s = .next (s.callNear target) := by
      simp only [List.mem_cons, Prod.mk.injEq, List.not_mem_nil, or_false] at hrow
      obtain ⟨rfl, rfl⟩ | ⟨rfl, rfl⟩ := hrow <;> rfl
    exact ⟨_, hexec, transferred_callNear s target⟩
  · have hexec : exec i s = .next (s.retNear k) := by
      simp only [List.mem_cons, Prod.mk.injEq, List.not_mem_nil, or_false] at hrow
      obtain ⟨rfl, rfl⟩ | ⟨rfl, rfl⟩ | ⟨rfl, rfl⟩ | ⟨rfl, rfl⟩ := hrow <;> rfl
    rw [s.retNear_eq] at hexec
    exact ⟨_, hexec, rfl, writesReg_set _ _ _ _ rfl⟩

/-- Settles O48: each form runs as one far jump, far call or far return; the pointer of an indirect one is that of
`farPointer_mem`, read in the state before. -/
theorem farTransfers : Obligations.FarTransfers := by
  intro s m off sg n
  obtain ⟨msg, hloc, hptr⟩ := farPointer_mem s m
  refine ⟨msg, hloc, fun i csv offv hrow => ?_, fun i csv offv hrow => ?_, fun i k hrow => ?_⟩
  · simp only [List.mem_cons, Prod.mk.injEq, List.not_mem_nil, or_false] at hrow
    obtain ⟨rfl, rfl, rfl⟩ | ⟨rfl, rfl, rfl⟩ := hrow
    · rfl
    · show execJmpMp (.mem m) s = _
      rw [execJmpMp, hptr]
      rfl
  · have hexec : exec i s = .next (s.callFar csv offv) := by
      simp only [List.mem_cons, Prod.mk.injEq, List.not_mem_nil, or_false] at hrow
      obtain ⟨rfl, rfl, rfl⟩ | ⟨rfl, rfl, rfl⟩ := hrow
      · rfl
      · show execCallMp (.mem m) s = _
        rw [execCallMp, hptr]
    exact ⟨_, hexec, transferred_callFar s csv offv⟩
  · have hexec : exec i s = .next (s.retFar k) := by
      simp only [List.mem_cons, Prod.mk.injEq, List.not_mem_nil, or_false] at hrow
      obtain ⟨rfl, rfl⟩ | ⟨rfl, rfl⟩ | ⟨rfl, rfl⟩ | ⟨rfl, rfl⟩ := hrow <;> rfl
    rw [s.retFar_eq] at hexec
    exact ⟨_, hexec, rfl, writesReg_set _ _ _ _ rfl⟩

/-! ## The short jump of a condition, and the loops (R384, R401 to R404) -/

/-- R384: a conditional short jump branches on its condition. -/
theorem branches_jumpIf (s : State) (c : Bool) (rel : Byte) : Branches s c rel (.next (s.jumpIf c rel)) := rfl

/-- A word lowered by 1 is 0 only when it was 1. -/
theorem sub_one_bne_zero (w : Word) : (w - 1#16 != 0#16) = decide (w ≠ 1) := by
  rw [Bool.eq_iff_iff, bne_iff_ne, decide_eq_true_iff, ne_eq, BitVec.sub_eq_iff_eq_add, BitVec.zero_add]
  rfl

/-- R401 to R403: a loop branches with CX one lower, on CX and its condition. -/
theorem branches_loop (s : State) (c : Bool) (rel : Byte) :
    Branches (s.setReg .cx (s.regs.cx - 1)) (decide (s.regs.cx ≠ 1) && c) rel (.next (s.loop c rel)) := by
  rw [← sub_one_bne_zero]
  exact branches_jumpIf _ _ _

/-- Settles O50: each loop is `branches_loop` with its condition on ZF; JCXZ is a conditional jump. -/
theorem loopForms : Obligations.LoopForms := by
  intro s rel
  refine ⟨s.setReg .cx (s.regs.cx - 1), writesReg_set _ _ _ _ rfl, rfl, ?_, ?_, ?_, ?_⟩
  · have hloop := branches_loop s true rel
    rwa [Bool.and_true] at hloop
  · rw [beq_true]
    exact branches_loop s s.flags.ZF rel
  · rw [beq_false]
    exact branches_loop s (!s.flags.ZF) rel
  · exact branches_jumpIf s _ rel

/-! ## Conditional jumps (R384 to R400, 46_undocumented.md R442) -/

/-- The conditions in the order of `cccc` (R384). -/
def Cond.all : List Cond := [.o, .no, .b, .nb, .e, .ne, .be, .a, .s, .ns, .p, .np, .l, .ge, .le, .g]

/-- The code `cccc` of a condition (R384). -/
def Cond.code : Cond → BitVec 4
  | .o => 0x0 | .no => 0x1 | .b => 0x2 | .nb => 0x3 | .e => 0x4 | .ne => 0x5 | .be => 0x6 | .a => 0x7
  | .s => 0x8 | .ns => 0x9 | .p => 0xA | .np => 0xB | .l => 0xC | .ge => 0xD | .le => 0xE | .g => 0xF

theorem Cond.ofCode_code (x : Cond) : Cond.ofCode x.code = x := by
  cases x <;> rfl

/-- The conditional jump of a condition, 70+cccc. -/
def jccRel8 : Cond → Byte → Instr
  | .o => .joRel8 | .no => .jnoRel8 | .b => .jbRel8 | .nb => .jnbRel8 | .e => .jeRel8 | .ne => .jneRel8
  | .be => .jbeRel8 | .a => .jaRel8 | .s => .jsRel8 | .ns => .jnsRel8 | .p => .jpRel8 | .np => .jnpRel8
  | .l => .jlRel8 | .ge => .jgeRel8 | .le => .jleRel8 | .g => .jgRel8

theorem exec_jccRel8 (x : Cond) (rel : Byte) (s : State) :
    exec (jccRel8 x rel) s = .next (s.jumpIf (x.holds s.flags) rel) := by
  cases x <;> rfl

theorem encode_jccRel8 (x : Cond) (rel : Byte) :
    encode (jccRel8 x rel) = [0x70#8 ||| x.code.setWidth 8, rel] := by
  cases x <;> rfl

/-- R442: 60+cccc runs as 70+cccc. -/
theorem exec_jccAlias_code (x : Cond) (rel : Byte) (s : State) :
    exec (.jccAlias x.code rel) s = exec (jccRel8 x rel) s := by
  show execJccAlias x.code rel s = _
  rw [execJccAlias, x.ofCode_code, exec_jccRel8]

/-- Settles O49: the rows of the statement are the conditions, each with its code, its jump and when it holds. -/
theorem conditionalJumps : Obligations.ConditionalJumps := by
  intro s rel
  refine ⟨s.flags, rfl, fun k i c hrow => ?_⟩
  change (k, i, c) ∈ Cond.all.map fun x => (x.code, jccRel8 x rel, x.holds s.flags) at hrow
  obtain ⟨x, -, ⟨⟩⟩ := List.mem_map.mp hrow
  rw [exec_jccAlias_code, exec_jccRel8]
  exact ⟨branches_jumpIf _ _ _, branches_jumpIf _ _ _, encode_jccRel8 x rel, rfl⟩

end Sys2Proof.Machine
end

section
/-! The encoding (30_encoding.md): each instruction is read back from its own bytes, and each row of the opcode map
(R135) and each group (R136) reads only well-formed instructions of its own opcode byte. -/

namespace Sys2Proof

/-! ## The opcode byte and the known set -/

/-- An instruction other than the unknown opcode. -/
def Instr.known : Instr → Bool
  | .unknownOpcode _ => false
  | _ => true

theorem Instr.eq_unknownOpcode {i : Instr} (h : i.known = false) : ∃ b, i = .unknownOpcode b := by
  cases i
  case unknownOpcode b => exact ⟨b, rfl⟩
  all_goals cases h

/-- R440: an instruction other than the unknown opcode is admitted by its opcode byte. -/
theorem Instr.opcodeOk_of_known {i : Instr} (hi : i.known = true) (cfg : Config) :
    i.opcodeOk cfg = !(cfg.undoc == .noop && undocByte i.opByte) := by
  cases i
  case unknownOpcode b => cases hi
  all_goals rfl

/-- R440: a byte inside the known set has its form of the opcode map. -/
theorem opForm_of_known {cfg : Config} {op : Byte} (h : (cfg.undoc == .noop && undocByte op) = false) :
    opForm cfg op = knownForm op := by
  rw [opForm, if_neg]
  rintro ⟨hundoc, hbyte⟩
  simp [hundoc, hbyte] at h

/-- R440: a byte outside the known set is an unknown opcode. -/
theorem opForm_of_unknown {cfg : Config} {op : Byte} (h : (cfg.undoc == .noop && undocByte op) = true) :
    opForm cfg op = formOp (.unknownOpcode op) := by
  rw [opForm, if_pos]
  simpa using h

/-! ## From the instruction to its bytes and back -/

/-- The opcode map reads the instruction from its own bytes, whatever follows. -/
def Instr.Reads (i : Instr) : Prop :=
  ∃ op body, encode i = op :: body ∧ ∀ rest, (knownForm op).run (body ++ rest) = .ok (i, rest)

section Shapes

variable {i : Instr} {op : Byte}

theorem reads_op (henc : encode i = [op]) (hform : knownForm op = formOp i) : i.Reads :=
  ⟨op, [], henc, fun _ => by rw [hform]; rfl⟩

theorem reads_imm8 {f : Byte → Instr} (x : Byte) (henc : encode (f x) = [op, x])
    (hform : knownForm op = .plain (.imm8 f)) : (f x).Reads :=
  ⟨op, [x], henc, fun _ => by rw [hform]; rfl⟩

theorem reads_imm16 {f : Word → Instr} (x : Word) (henc : encode (f x) = op :: wordBytes x)
    (hform : knownForm op = .plain (.imm16 f)) : (f x).Reads :=
  ⟨op, wordBytes x, henc, fun _ => by rw [hform]; simp [Form.run, Tail.run, wordBytes]⟩

theorem reads_far {f : Word → Word → Instr} (x y : Word) (henc : encode (f x y) = op :: (wordBytes x ++ wordBytes y))
    (hform : knownForm op = .plain (.far f)) : (f x y).Reads :=
  ⟨op, wordBytes x ++ wordBytes y, henc, fun _ => by rw [hform]; simp [Form.run, Tail.run, wordBytes]⟩

/-- A form with a byte operand: the tail is read after the operand. -/
theorem reads_byteOperand {reg : BitVec 3} {e : RM Reg8} {f : BitVec 3 → ModForm} {g : RM Reg8 → Tail}
    {tail : List Byte} (he : e.ok = true) (henc : encode i = op :: (encB reg e ++ tail))
    (hform : knownForm op = .modrm f) (hmod : f reg = .rmB g)
    (htail : ∀ rest, (g e).run (tail ++ rest) = .ok (i, rest)) : i.Reads := by
  refine ⟨op, _, henc, fun rest => ?_⟩
  obtain ⟨m, ds, hbytes, hreg, hrm⟩ := decodeRM_encB reg e (tail ++ rest) he
  simp [hform, hbytes, Form.run, hreg, hmod, ModForm.run, hrm, htail]

/-- A form with a word operand: the tail is read after the operand. -/
theorem reads_wordOperand {reg : BitVec 3} {e : RM Reg} {f : BitVec 3 → ModForm} {g : RM Reg → Tail}
    {tail : List Byte} (he : e.ok = true) (henc : encode i = op :: (encW reg e ++ tail))
    (hform : knownForm op = .modrm f) (hmod : f reg = .rmW g)
    (htail : ∀ rest, (g e).run (tail ++ rest) = .ok (i, rest)) : i.Reads := by
  refine ⟨op, _, henc, fun rest => ?_⟩
  obtain ⟨m, ds, hbytes, hreg, hrm⟩ := decodeRM_encW reg e (tail ++ rest) he
  simp [hform, hbytes, Form.run, hreg, hmod, ModForm.run, hrm, htail]

theorem reads_eb {reg : BitVec 3} {e : RM Reg8} {f : BitVec 3 → ModForm} {g : RM Reg8 → Tail} (he : e.ok = true)
    (henc : encode i = op :: encB reg e) (hform : knownForm op = .modrm f) (hmod : f reg = .rmB g)
    (htail : g e = .done i) : i.Reads :=
  reads_byteOperand (tail := []) he (by simpa using henc) hform hmod fun _ => by rw [htail]; rfl

theorem reads_ev {reg : BitVec 3} {e : RM Reg} {f : BitVec 3 → ModForm} {g : RM Reg → Tail} (he : e.ok = true)
    (henc : encode i = op :: encW reg e) (hform : knownForm op = .modrm f) (hmod : f reg = .rmW g)
    (htail : g e = .done i) : i.Reads :=
  reads_wordOperand (tail := []) he (by simpa using henc) hform hmod fun _ => by rw [htail]; rfl

theorem reads_ebGb {k : RM Reg8 → Reg8 → Instr} {e : RM Reg8} {g : Reg8} (he : e.ok = true)
    (henc : encode (k e g) = op :: encB g.code e) (hform : knownForm op = formEbGb k) : (k e g).Reads :=
  reads_eb he henc hform rfl (by rw [Reg8.ofCode_code])

theorem reads_evGv {k : RM Reg → Reg → Instr} {e : RM Reg} {g : Reg} (he : e.ok = true)
    (henc : encode (k e g) = op :: encW g.code e) (hform : knownForm op = formEvGv k) : (k e g).Reads :=
  reads_ev he henc hform rfl (by rw [Reg.ofCode_code])

theorem reads_gbEb {k : Reg8 → RM Reg8 → Instr} {g : Reg8} {e : RM Reg8} (he : e.ok = true)
    (henc : encode (k g e) = op :: encB g.code e) (hform : knownForm op = formEbGb fun e g => k g e) :
    (k g e).Reads :=
  reads_ebGb (k := fun e g => k g e) he henc hform

theorem reads_gvEv {k : Reg → RM Reg → Instr} {g : Reg} {e : RM Reg} (he : e.ok = true)
    (henc : encode (k g e) = op :: encW g.code e) (hform : knownForm op = formEvGv fun e g => k g e) :
    (k g e).Reads :=
  reads_evGv (k := fun e g => k g e) he henc hform

theorem reads_ebIb {reg : BitVec 3} {e : RM Reg8} {x : Byte} {f : BitVec 3 → ModForm} {g : RM Reg8 → Tail}
    {h : Byte → Instr} (he : e.ok = true) (henc : encode (h x) = op :: (encB reg e ++ [x]))
    (hform : knownForm op = .modrm f) (hmod : f reg = .rmB g) (htail : g e = .imm8 h) : (h x).Reads :=
  reads_byteOperand he henc hform hmod fun _ => by rw [htail]; rfl

theorem reads_evIb {reg : BitVec 3} {e : RM Reg} {x : Byte} {f : BitVec 3 → ModForm} {g : RM Reg → Tail}
    {h : Byte → Instr} (he : e.ok = true) (henc : encode (h x) = op :: (encW reg e ++ [x]))
    (hform : knownForm op = .modrm f) (hmod : f reg = .rmW g) (htail : g e = .imm8 h) : (h x).Reads :=
  reads_wordOperand he henc hform hmod fun _ => by rw [htail]; rfl

theorem reads_evIv {reg : BitVec 3} {e : RM Reg} {x : Word} {f : BitVec 3 → ModForm} {g : RM Reg → Tail}
    {h : Word → Instr} (he : e.ok = true) (henc : encode (h x) = op :: (encW reg e ++ wordBytes x))
    (hform : knownForm op = .modrm f) (hmod : f reg = .rmW g) (htail : g e = .imm16 h) : (h x).Reads :=
  reads_wordOperand he henc hform hmod fun _ => by rw [htail]; simp [Tail.run, wordBytes]

end Shapes

/-- A bit vector is one of the numerals of its width. -/
theorem bitVec_numerals {w : Nat} {p : BitVec w → Prop} (numeral : ∀ n < 2 ^ w, p (BitVec.ofNat w n))
    (c : BitVec w) : p c := by
  have hc := numeral c.toNat c.isLt
  rwa [BitVec.ofNat_toNat, BitVec.setWidth_eq] at hc

/-- R442: 60+cccc. -/
theorem reads_jccAlias (cc : BitVec 4) (rel : Byte) : (Instr.jccAlias cc rel).Reads := by
  induction cc using bitVec_numerals with
  | numeral n hn => interval_cases n <;> exact reads_imm8 rel rfl rfl

/-- R419: D8+xxx. -/
theorem reads_esc {e : RM Reg} (he : e.ok = true) (x y : BitVec 3) : (Instr.esc x y e).Reads := by
  induction x using bitVec_numerals with
  | numeral n hn => interval_cases n <;> exact reads_ev he rfl rfl rfl rfl

theorem reads_movEwSregBad {e : RM Reg} (he : e.ok = true) (x : BitVec 2) : (Instr.movEwSregBad x e).Reads := by
  induction x using bitVec_numerals with
  | numeral n hn => interval_cases n <;> exact reads_ev he rfl rfl rfl rfl

theorem reads_movSregEwBad {e : RM Reg} (he : e.ok = true) (x : BitVec 2) : (Instr.movSregEwBad x e).Reads := by
  induction x using bitVec_numerals with
  | numeral n hn => interval_cases n <;> exact reads_ev he rfl rfl rfl rfl

/-- R135, R136: every instruction of the known set is read from its own bytes, by the shape of its row. -/
theorem reads_of_operandOk {i : Instr} (hok : i.operandOk = true) (hknown : i.known = true) : i.Reads := by
  cases i
  case addEbGb e g | orEbGb e g | adcEbGb e g | sbbEbGb e g | andEbGb e g | subEbGb e g | xorEbGb e g |
      cmpEbGb e g | testEbGb e g | xchgEbGb e g | movEbGb e g =>
    exact reads_ebGb hok rfl rfl
  case addGbEb g e | orGbEb g e | adcGbEb g e | sbbGbEb g e | andGbEb g e | subGbEb g e | xorGbEb g e |
      cmpGbEb g e | movGbEb g e =>
    exact reads_gbEb hok rfl rfl
  case addEvGv e g | orEvGv e g | adcEvGv e g | sbbEvGv e g | andEvGv e g | subEvGv e g | xorEvGv e g |
      cmpEvGv e g | testEvGv e g | xchgEvGv e g | movEvGv e g =>
    exact reads_evGv hok rfl rfl
  case addGvEv g e | orGvEv g e | adcGvEv g e | sbbGvEv g e | andGvEv g e | subGvEv g e | xorGvEv g e |
      cmpGvEv g e | movGvEv g e | leaGvM g e | lesGvMp g e | ldsGvMp g e =>
    exact reads_gvEv hok rfl rfl
  case rolEb1 e | rorEb1 e | rclEb1 e | rcrEb1 e | shlEb1 e | shrEb1 e | refusedD06 e _ | sarEb1 e | rolEbCl e |
      rorEbCl e | rclEbCl e | rcrEbCl e | shlEbCl e | shrEbCl e | refusedD26 e _ | sarEbCl e | notEb e | negEb e
      | mulEb e | imulEb e | divEb e | idivEb e | incEb e | decEb e | refusedFE2 e _ | refusedFE3 e _ |
      refusedFE4 e _ | refusedFE5 e _ | refusedFE6 e _ | refusedFE7 e _ =>
    exact reads_eb hok rfl rfl rfl rfl
  case popEv e | refused8F1 e _ | refused8F2 e _ | refused8F3 e _ | refused8F4 e _ | refused8F5 e _ |
      refused8F6 e _ | refused8F7 e _ | rolEv1 e | rorEv1 e | rclEv1 e | rcrEv1 e | shlEv1 e | shrEv1 e |
      refusedD16 e _ | sarEv1 e | rolEvCl e | rorEvCl e | rclEvCl e | rcrEvCl e | shlEvCl e | shrEvCl e |
      refusedD36 e _ | sarEvCl e | notEv e | negEv e | mulEv e | imulEv e | divEv e | idivEv e | incEv e |
      decEv e | callEv e | callMp e | jmpEv e | jmpMp e | pushEv e | refusedFF7 e _ =>
    exact reads_ev hok rfl rfl rfl rfl
  case addEbIb e imm | orEbIb e imm | adcEbIb e imm | sbbEbIb e imm | andEbIb e imm | subEbIb e imm |
      xorEbIb e imm | cmpEbIb e imm | addEbIb82 e imm | orEbIb82 e imm | adcEbIb82 e imm | sbbEbIb82 e imm |
      andEbIb82 e imm | subEbIb82 e imm | xorEbIb82 e imm | cmpEbIb82 e imm | movEbIb e imm | refusedC61 e imm |
      refusedC62 e imm | refusedC63 e imm | refusedC64 e imm | refusedC65 e imm | refusedC66 e imm |
      refusedC67 e imm | testEbIb e imm | testEbIbF1 e imm =>
    exact reads_ebIb hok rfl rfl rfl rfl
  case addEvIbSx e imm | orEvIbSx e imm | adcEvIbSx e imm | sbbEvIbSx e imm | andEvIbSx e imm | subEvIbSx e imm
      | xorEvIbSx e imm | cmpEvIbSx e imm =>
    exact reads_evIb hok rfl rfl rfl rfl
  case addEvIv e imm | orEvIv e imm | adcEvIv e imm | sbbEvIv e imm | andEvIv e imm | subEvIv e imm |
      xorEvIv e imm | cmpEvIv e imm | movEvIv e imm | refusedC71 e imm | refusedC72 e imm | refusedC73 e imm |
      refusedC74 e imm | refusedC75 e imm | refusedC76 e imm | refusedC77 e imm | testEvIv e imm |
      testEvIvF1 e imm =>
    exact reads_evIv hok rfl rfl rfl rfl
  case addAlIb imm | orAlIb imm | adcAlIb imm | sbbAlIb imm | andAlIb imm | subAlIb imm | xorAlIb imm |
      cmpAlIb imm | joRel8 rel | jnoRel8 rel | jbRel8 rel | jnbRel8 rel | jeRel8 rel | jneRel8 rel | jbeRel8 rel
      | jaRel8 rel | jsRel8 rel | jnsRel8 rel | jpRel8 rel | jnpRel8 rel | jlRel8 rel | jgeRel8 rel |
      jleRel8 rel | jgRel8 rel | testAlIb imm | intIb imm | aamIb imm | aadIb imm | loopnzRel8 rel |
      loopzRel8 rel | loopRel8 rel | jcxzRel8 rel | inAlIb imm | inAxIb imm | outIbAl imm | outIbAx imm |
      jmpRel8 rel =>
    exact reads_imm8 _ rfl rfl
  case addAxIv imm | orAxIv imm | adcAxIv imm | sbbAxIv imm | andAxIv imm | subAxIv imm | xorAxIv imm |
      cmpAxIv imm | movAlOb off | movAxOv off | movObAl off | movOvAx off | testAxIv imm | retIwC0 imm |
      retIw imm | retfIwC8 imm | retfIw imm | callRel16 rel | jmpRel16 rel =>
    exact reads_imm16 _ rfl rfl
  case callAp off sg | jmpAp off sg =>
    exact reads_far off sg rfl rfl
  case movR8Ib r imm =>
    cases r <;> exact reads_imm8 imm rfl rfl
  case movR16Iv r imm =>
    cases r <;> exact reads_imm16 imm rfl rfl
  case jccAlias cc rel =>
    exact reads_jccAlias cc rel
  case movEwSreg e sr | movSregEw sr e =>
    cases sr <;> exact reads_ev hok rfl rfl rfl rfl
  case movEwSregBad x e =>
    exact reads_movEwSregBad hok x
  case movSregEwBad x e =>
    exact reads_movSregEwBad hok x
  case esc x y e =>
    exact reads_esc hok x y
  case incR16 r | decR16 r | pushR16 r | popR16 r =>
    cases r <;> exact reads_op rfl rfl
  case unknownOpcode b =>
    cases hknown
  all_goals exact reads_op rfl rfl

/-- Settles O1: an unknown opcode is its byte; any other instruction is read through the opcode map. -/
theorem decodeOfEncode : Obligations.DecodeOfEncode := by
  intro cfg i rest hwf
  obtain ⟨hok, hopcode⟩ := Bool.and_eq_true_iff.mp hwf
  cases hknown : i.known
  · obtain ⟨b, rfl⟩ := Instr.eq_unknownOpcode hknown
    show (opForm cfg b).run rest = _
    rw [opForm_of_unknown hopcode]
    rfl
  · obtain ⟨op, body, henc, hread⟩ := reads_of_operandOk hok hknown
    rw [Instr.opcodeOk_of_known hknown, Instr.opByte, henc, List.headD_cons, Bool.not_eq_true'] at hopcode
    rw [henc, List.cons_append, decode, opForm_of_known hopcode, hread]
end Sys2Proof
end

section
namespace Sys2Proof

/-! ## From bytes to the instruction and back -/

/-- What is read behind the bytes `pre` is a well-formed instruction whose bytes begin with `pre`, and it is read
whenever `n` more bytes stand there. -/
structure Parses (pre : List Byte) (n : Nat) (run : List Byte → Except Reject (Instr × List Byte)) : Prop where
  sound : ∀ {bs i rest}, run bs = .ok (i, rest) →
    i.operandOk = true ∧ i.known = true ∧ pre ++ bs = encode i ++ rest
  total : ∀ bs, n ≤ bs.length → ∃ i rest, run bs = .ok (i, rest) ∧ bs.length ≤ rest.length + n

/-- A tail of at most `n` bytes behind the bytes `pre`. -/
def Tail.Codes (pre : List Byte) (n : Nat) (t : Tail) : Prop := Parses pre n fun bs => t.run bs

/-- The form that a reg field selects, behind its opcode byte and any ModRM byte with that field. -/
def ModForm.Codes (op : Byte) (reg : BitVec 3) (f : ModForm) : Prop :=
  ∀ m, regOf m = reg → Parses [op, m] 4 fun bs => f.run m bs

/-- The form of an opcode byte, which at most 5 more bytes follow (R120). -/
def Form.Codes (op : Byte) (f : Form) : Prop := Parses [op] 5 fun bs => f.run bs

/-- An instruction whose operand is admitted and whose bytes are given. -/
def Instr.HasBytes (i : Instr) (bs : List Byte) : Prop := i.operandOk = true ∧ i.known = true ∧ encode i = bs

/-- What `HasBytes` asks about: the operand's check, the known set and the bytes. -/
def Instr.code (i : Instr) : Bool × Bool × List Byte := (i.operandOk, i.known, encode i)

theorem Instr.hasBytes_of_code {i : Instr} {ok : Bool} {bs : List Byte} (h : i.code = (ok, true, bs))
    (hok : ok = true) : i.HasBytes bs := by
  simp only [code, Prod.mk.injEq] at h
  obtain ⟨hi, hknown, henc⟩ := h
  exact ⟨hi.trans hok, hknown, henc⟩

theorem Parses.mono {pre : List Byte} {n m : Nat} {run : List Byte → Except Reject (Instr × List Byte)}
    (h : Parses pre n run) (hnm : n ≤ m) : Parses pre m run := by
  refine ⟨h.sound, fun bs hbs => ?_⟩
  obtain ⟨i, rest, hrun, hlen⟩ := h.total bs (by omega)
  exact ⟨i, rest, hrun, by omega⟩

theorem hiByte_loByte_mkWord (h l : Byte) : wordBytes (mkWord h l) = [l, h] := by
  rw [wordBytes, Machine.loByte_mkWord, Machine.hiByte_mkWord]

section Tails

variable {pre : List Byte} {n : Nat}

theorem codes_done {i : Instr} (h : i.HasBytes pre) : (Tail.done i).Codes pre n := by
  obtain ⟨hok, hknown, henc⟩ := h
  refine ⟨fun {bs j rest} hrun => ?_, fun bs _ => ⟨i, bs, rfl, by omega⟩⟩
  cases hrun
  exact ⟨hok, hknown, by rw [henc]⟩

theorem codes_imm8 {f : Byte → Instr} (h : ∀ x, (f x).HasBytes (pre ++ [x])) (hn : 1 ≤ n) :
    (Tail.imm8 f).Codes pre n := by
  refine Parses.mono (n := 1) ⟨fun {bs i rest} hrun => ?_, fun bs hbs => ?_⟩ hn
  · cases bs with
    | nil => cases hrun
    | cons x bs =>
      cases hrun
      obtain ⟨hok, hknown, henc⟩ := h x
      exact ⟨hok, hknown, by simp [henc]⟩
  · match bs, hbs with
    | x :: bs, _ => exact ⟨_, bs, rfl, by simp⟩

theorem codes_imm16 {f : Word → Instr} (h : ∀ x, (f x).HasBytes (pre ++ wordBytes x)) (hn : 2 ≤ n) :
    (Tail.imm16 f).Codes pre n := by
  refine Parses.mono (n := 2) ⟨fun {bs i rest} hrun => ?_, fun bs hbs => ?_⟩ hn
  · match bs, hrun with
    | lo :: hi :: bs, hrun =>
      cases hrun
      obtain ⟨hok, hknown, henc⟩ := h (mkWord hi lo)
      exact ⟨hok, hknown, by simp [henc, hiByte_loByte_mkWord]⟩
  · match bs, hbs with
    | lo :: hi :: bs, _ => exact ⟨_, bs, rfl, by simp⟩

theorem codes_far {f : Word → Word → Instr} (h : ∀ x y, (f x y).HasBytes (pre ++ (wordBytes x ++ wordBytes y)))
    (hn : 4 ≤ n) : (Tail.far f).Codes pre n := by
  refine Parses.mono (n := 4) ⟨fun {bs i rest} hrun => ?_, fun bs hbs => ?_⟩ hn
  · match bs, hrun with
    | a :: b :: c :: d :: bs, hrun =>
      cases hrun
      obtain ⟨hok, hknown, henc⟩ := h (mkWord b a) (mkWord d c)
      exact ⟨hok, hknown, by simp [henc, hiByte_loByte_mkWord]⟩
  · match bs, hbs with
    | a :: b :: c :: d :: bs, _ => exact ⟨_, bs, rfl, by simp⟩

end Tails

/-- Without displacement only the code 110 is `[BP]` (R127). -/
theorem base_ok_of_ne {c : BitVec 3} (h : c ≠ 6#3) : (MemRef.base (BaseIndex.ofCode c)).ok = true := by
  revert h
  revert c
  decide

/-- What a ModRM byte and the bytes after it decode to: a register, or a well-formed memory operand whose encoding
they are (R125 to R127). -/
theorem decodeRM_sound {ρ : Type} {ofCode : BitVec 3 → ρ} {m : Byte} {bs r : List Byte} {e : RM ρ}
    (h : decodeRM ofCode m bs = .ok (e, r)) :
    (e = .reg (ofCode (rmOf m)) ∧ m = modrmByte 3#2 (regOf m) (rmOf m) ∧ r = bs) ∨
    (∃ x : MemRef, e = .mem x ∧ x.ok = true ∧ m :: bs = x.encode (regOf m) ++ r) := by
  have hm := modrmByte_fields m
  unfold decodeRM at h
  generalize modOf m = mod at h hm
  induction mod using bitVec_numerals with
  | numeral n hn =>
  interval_cases n
  · simp only [BitVec.toNat_ofNat, Nat.zero_mod] at h
    split at h
    · next hrm =>
      match bs, h with
      | lo :: hi :: bs, h =>
        cases h
        rw [hrm] at hm
        exact .inr ⟨_, rfl, rfl, by simp [MemRef.encode, hiByte_loByte_mkWord, hm]⟩
    · next hrm =>
      cases h
      refine .inr ⟨_, rfl, ?_, by simp [MemRef.encode, BaseIndex.code_ofCode, hm]⟩
      exact base_ok_of_ne hrm
  · match bs, h with
    | d :: bs, h =>
      cases h
      exact .inr ⟨_, rfl, rfl, by simp [MemRef.encode, BaseIndex.code_ofCode, hm]⟩
  · match bs, h with
    | lo :: hi :: bs, h =>
      cases h
      exact .inr ⟨_, rfl, rfl, by simp [MemRef.encode, BaseIndex.code_ofCode, hiByte_loByte_mkWord, hm]⟩
  · cases h
    exact .inl ⟨rfl, hm.symm, rfl⟩

/-- At most two displacement bytes follow a ModRM byte. -/
theorem decodeRM_total {ρ : Type} (ofCode : BitVec 3 → ρ) (m : Byte) {bs : List Byte} (hbs : 2 ≤ bs.length) :
    ∃ e r, decodeRM ofCode m bs = .ok (e, r) ∧ bs.length ≤ r.length + 2 := by
  obtain ⟨x, y, bs, rfl⟩ : ∃ x y bs', bs = x :: y :: bs' := by
    match bs, hbs with
    | x :: y :: bs, _ => exact ⟨x, y, bs, rfl⟩
  unfold decodeRM
  split
  · split
    · exact ⟨_, _, rfl, by simp⟩
    · exact ⟨_, _, rfl, by omega⟩
  · exact ⟨_, _, rfl, by simp⟩
  · exact ⟨_, _, rfl, by simp⟩
  · exact ⟨_, _, rfl, by omega⟩

theorem decodeRM_encB_sound {m : Byte} {bs r : List Byte} {e : RM Reg8} (h : decodeRM Reg8.ofCode m bs = .ok (e, r)) :
    e.ok = true ∧ m :: bs = encB (regOf m) e ++ r := by
  obtain ⟨rfl, hm, rfl⟩ | ⟨x, rfl, hok, henc⟩ := decodeRM_sound h
  · refine ⟨rfl, ?_⟩
    rw [encB, Reg8.code_ofCode, ← hm]
    rfl
  · exact ⟨hok, henc⟩

theorem decodeRM_encW_sound {m : Byte} {bs r : List Byte} {e : RM Reg} (h : decodeRM Reg.ofCode m bs = .ok (e, r)) :
    e.ok = true ∧ m :: bs = encW (regOf m) e ++ r := by
  obtain ⟨rfl, hm, rfl⟩ | ⟨x, rfl, hok, henc⟩ := decodeRM_sound h
  · refine ⟨rfl, ?_⟩
    rw [encW, Reg.code_ofCode, ← hm]
    rfl
  · exact ⟨hok, henc⟩

section ModForms

variable {op : Byte} {reg : BitVec 3}

theorem codes_rmB {f : RM Reg8 → Tail} (h : ∀ e, e.ok = true → (f e).Codes (op :: encB reg e) 2) :
    (ModForm.rmB f).Codes op reg := by
  rintro m rfl
  refine ⟨fun {bs i rest} hrun => ?_, fun bs hbs => ?_⟩
  · simp only [ModForm.run] at hrun
    split at hrun
    · next e r hrm =>
      obtain ⟨hok, hbytes⟩ := decodeRM_encB_sound hrm
      obtain ⟨hi, hknown, henc⟩ := (h e hok).sound hrun
      exact ⟨hi, hknown, by simpa [hbytes] using henc⟩
    · cases hrun
  · obtain ⟨e, r, hrm, hr⟩ := decodeRM_total Reg8.ofCode m (bs := bs) (by omega)
    obtain ⟨hok, -⟩ := decodeRM_encB_sound hrm
    obtain ⟨i, rest, hrun, hrest⟩ := (h e hok).total r (by omega)
    exact ⟨i, rest, by simp only [ModForm.run, hrm, hrun], by omega⟩

theorem codes_rmW {f : RM Reg → Tail} (h : ∀ e, e.ok = true → (f e).Codes (op :: encW reg e) 2) :
    (ModForm.rmW f).Codes op reg := by
  rintro m rfl
  refine ⟨fun {bs i rest} hrun => ?_, fun bs hbs => ?_⟩
  · simp only [ModForm.run] at hrun
    split at hrun
    · next e r hrm =>
      obtain ⟨hok, hbytes⟩ := decodeRM_encW_sound hrm
      obtain ⟨hi, hknown, henc⟩ := (h e hok).sound hrun
      exact ⟨hi, hknown, by simpa [hbytes] using henc⟩
    · cases hrun
  · obtain ⟨e, r, hrm, hr⟩ := decodeRM_total Reg.ofCode m (bs := bs) (by omega)
    obtain ⟨hok, -⟩ := decodeRM_encW_sound hrm
    obtain ⟨i, rest, hrun, hrest⟩ := (h e hok).total r (by omega)
    exact ⟨i, rest, by simp only [ModForm.run, hrm, hrun], by omega⟩

end ModForms

/-! ## The rows of the opcode map (R135) and the groups (R136) -/

namespace Entry

variable {op : Byte} {reg : BitVec 3}

theorem modrm {f : BitVec 3 → ModForm} (h : ∀ reg, (f reg).Codes op reg) : (Form.modrm f).Codes op := by
  refine ⟨fun {bs i rest} hrun => ?_, fun bs hbs => ?_⟩
  · cases bs with
    | nil => cases hrun
    | cons m bs => exact (h (regOf m) m rfl).sound hrun
  · match bs, hbs with
    | m :: bs, hbs =>
      obtain ⟨i, rest, hrun, hrest⟩ := (h (regOf m) m rfl).total bs (by simpa using hbs)
      exact ⟨i, rest, hrun, by simp; omega⟩

theorem plain {t : Tail} (h : t.Codes [op] 5) : (Form.plain t).Codes op := h

theorem nop {i : Instr} (h : i.code = (true, true, [op])) : (formOp i).Codes op :=
  plain (codes_done (Instr.hasBytes_of_code h rfl))

theorem ib {f : Byte → Instr} (h : (fun x => (f x).code) = fun x => (true, true, [op, x])) :
    (Form.plain (.imm8 f)).Codes op :=
  plain (codes_imm8 (fun x => Instr.hasBytes_of_code (congrFun h x) rfl) (by decide))

theorem iw {f : Word → Instr} (h : (fun x => (f x).code) = fun x => (true, true, op :: wordBytes x)) :
    (Form.plain (.imm16 f)).Codes op :=
  plain (codes_imm16 (fun x => Instr.hasBytes_of_code (congrFun h x) rfl) (by decide))

theorem far {f : Word → Word → Instr}
    (h : (fun x y => (f x y).code) = fun x y => (true, true, op :: (wordBytes x ++ wordBytes y))) :
    (Form.plain (.far f)).Codes op :=
  plain (codes_far (fun x y => Instr.hasBytes_of_code (congrFun₂ h x y) rfl) (by decide))

theorem eb {f : RM Reg8 → Instr} (h : (fun e => (f e).code) = fun e => (e.ok, true, op :: encB reg e)) :
    (ModForm.rmB fun e => .done (f e)).Codes op reg :=
  codes_rmB fun e he => codes_done (Instr.hasBytes_of_code (congrFun h e) he)

theorem ev {f : RM Reg → Instr} (h : (fun e => (f e).code) = fun e => (e.ok, true, op :: encW reg e)) :
    (ModForm.rmW fun e => .done (f e)).Codes op reg :=
  codes_rmW fun e he => codes_done (Instr.hasBytes_of_code (congrFun h e) he)

theorem ebIb {f : RM Reg8 → Byte → Instr}
    (h : (fun e x => (f e x).code) = fun e x => (e.ok, true, op :: (encB reg e ++ [x]))) :
    (ModForm.rmB fun e => .imm8 (f e)).Codes op reg :=
  codes_rmB fun e he => codes_imm8 (fun x => Instr.hasBytes_of_code (congrFun₂ h e x) he) (by decide)

theorem evIb {f : RM Reg → Byte → Instr}
    (h : (fun e x => (f e x).code) = fun e x => (e.ok, true, op :: (encW reg e ++ [x]))) :
    (ModForm.rmW fun e => .imm8 (f e)).Codes op reg :=
  codes_rmW fun e he => codes_imm8 (fun x => Instr.hasBytes_of_code (congrFun₂ h e x) he) (by decide)

theorem evIv {f : RM Reg → Word → Instr}
    (h : (fun e x => (f e x).code) = fun e x => (e.ok, true, op :: (encW reg e ++ wordBytes x))) :
    (ModForm.rmW fun e => .imm16 (f e)).Codes op reg :=
  codes_rmW fun e he => codes_imm16 (fun x => Instr.hasBytes_of_code (congrFun₂ h e x) he) (by decide)

theorem ebGb {k : RM Reg8 → Reg8 → Instr}
    (h : (fun e g => (k e g).code) = fun e g => (e.ok, true, op :: encB g.code e)) : (formEbGb k).Codes op :=
  modrm fun reg => eb <| funext fun e => by rw [congrFun₂ h e (Reg8.ofCode reg), Reg8.code_ofCode]

theorem evGv {k : RM Reg → Reg → Instr}
    (h : (fun e g => (k e g).code) = fun e g => (e.ok, true, op :: encW g.code e)) : (formEvGv k).Codes op :=
  modrm fun reg => ev <| funext fun e => by rw [congrFun₂ h e (Reg.ofCode reg), Reg.code_ofCode]

/-- A group, by the eight values of the reg field. -/
theorem group {f : BitVec 3 → ModForm} (h0 : (f 0).Codes op 0) (h1 : (f 1).Codes op 1) (h2 : (f 2).Codes op 2)
    (h3 : (f 3).Codes op 3) (h4 : (f 4).Codes op 4) (h5 : (f 5).Codes op 5) (h6 : (f 6).Codes op 6)
    (h7 : (f 7).Codes op 7) : (Form.modrm f).Codes op := by
  refine modrm fun reg => ?_
  induction reg using bitVec_numerals with
  | numeral n hn => interval_cases n <;> assumption

/-- 80: Grp1 Eb,Ib. -/
theorem grp80 : (Form.modrm fun reg => .rmB fun e => .imm8 fun x => Sys2Proof.grp80 e x reg.toNat).Codes 0x80#8 :=
  group (ebIb rfl) (ebIb rfl) (ebIb rfl) (ebIb rfl) (ebIb rfl) (ebIb rfl) (ebIb rfl) (ebIb rfl)

/-- 81: Grp1 Ev,Iv. -/
theorem grp81 : (Form.modrm fun reg => .rmW fun e => .imm16 fun x => Sys2Proof.grp81 e x reg.toNat).Codes 0x81#8 :=
  group (evIv rfl) (evIv rfl) (evIv rfl) (evIv rfl) (evIv rfl) (evIv rfl) (evIv rfl) (evIv rfl)

/-- 82: Grp1 Eb,Ib (46_undocumented.md R447). -/
theorem grp82 : (Form.modrm fun reg => .rmB fun e => .imm8 fun x => Sys2Proof.grp82 e x reg.toNat).Codes 0x82#8 :=
  group (ebIb rfl) (ebIb rfl) (ebIb rfl) (ebIb rfl) (ebIb rfl) (ebIb rfl) (ebIb rfl) (ebIb rfl)

/-- 83: Grp1 Ev,Ib. -/
theorem grp83 : (Form.modrm fun reg => .rmW fun e => .imm8 fun x => Sys2Proof.grp83 e x reg.toNat).Codes 0x83#8 :=
  group (evIb rfl) (evIb rfl) (evIb rfl) (evIb rfl) (evIb rfl) (evIb rfl) (evIb rfl) (evIb rfl)

theorem grp8F : (Form.modrm Sys2Proof.grp8F).Codes 0x8F#8 :=
  group (ev rfl) (ev rfl) (ev rfl) (ev rfl) (ev rfl) (ev rfl) (ev rfl) (ev rfl)

theorem grpC6 : (Form.modrm Sys2Proof.grpC6).Codes 0xC6#8 :=
  group (ebIb rfl) (ebIb rfl) (ebIb rfl) (ebIb rfl) (ebIb rfl) (ebIb rfl) (ebIb rfl) (ebIb rfl)

theorem grpC7 : (Form.modrm Sys2Proof.grpC7).Codes 0xC7#8 :=
  group (evIv rfl) (evIv rfl) (evIv rfl) (evIv rfl) (evIv rfl) (evIv rfl) (evIv rfl) (evIv rfl)

theorem grpD0 : (Form.modrm Sys2Proof.grpD0).Codes 0xD0#8 :=
  group (eb rfl) (eb rfl) (eb rfl) (eb rfl) (eb rfl) (eb rfl) (eb rfl) (eb rfl)

theorem grpD1 : (Form.modrm Sys2Proof.grpD1).Codes 0xD1#8 :=
  group (ev rfl) (ev rfl) (ev rfl) (ev rfl) (ev rfl) (ev rfl) (ev rfl) (ev rfl)

theorem grpD2 : (Form.modrm Sys2Proof.grpD2).Codes 0xD2#8 :=
  group (eb rfl) (eb rfl) (eb rfl) (eb rfl) (eb rfl) (eb rfl) (eb rfl) (eb rfl)

theorem grpD3 : (Form.modrm Sys2Proof.grpD3).Codes 0xD3#8 :=
  group (ev rfl) (ev rfl) (ev rfl) (ev rfl) (ev rfl) (ev rfl) (ev rfl) (ev rfl)

theorem grpF6 : (Form.modrm Sys2Proof.grpF6).Codes 0xF6#8 :=
  group (ebIb rfl) (ebIb rfl) (eb rfl) (eb rfl) (eb rfl) (eb rfl) (eb rfl) (eb rfl)

theorem grpF7 : (Form.modrm Sys2Proof.grpF7).Codes 0xF7#8 :=
  group (evIv rfl) (evIv rfl) (ev rfl) (ev rfl) (ev rfl) (ev rfl) (ev rfl) (ev rfl)

theorem grpFE : (Form.modrm Sys2Proof.grpFE).Codes 0xFE#8 :=
  group (eb rfl) (eb rfl) (eb rfl) (eb rfl) (eb rfl) (eb rfl) (eb rfl) (eb rfl)

theorem grpFF : (Form.modrm Sys2Proof.grpFF).Codes 0xFF#8 :=
  group (ev rfl) (ev rfl) (ev rfl) (ev rfl) (ev rfl) (ev rfl) (ev rfl) (ev rfl)

/-- 8C: MOV Ew,Sreg and the fields 4 to 7. -/
theorem movFromSeg : (Form.modrm fun reg => .rmW fun e => .done
    (if reg.toNat < 4 then .movEwSreg e (SReg.ofCode (reg.setWidth 2)) else .movEwSregBad (reg.setWidth 2) e)).Codes
    0x8C#8 :=
  group (ev rfl) (ev rfl) (ev rfl) (ev rfl) (ev rfl) (ev rfl) (ev rfl) (ev rfl)

/-- 8E: MOV Sreg,Ew and the fields 4 to 7. -/
theorem movToSeg : (Form.modrm fun reg => .rmW fun e => .done
    (if reg.toNat < 4 then .movSregEw (SReg.ofCode (reg.setWidth 2)) e else .movSregEwBad (reg.setWidth 2) e)).Codes
    0x8E#8 :=
  group (ev rfl) (ev rfl) (ev rfl) (ev rfl) (ev rfl) (ev rfl) (ev rfl) (ev rfl)

/-- R419: D8+xxx. -/
theorem escape {x : BitVec 3} (hop : opPlus 0xD8#8 x = op) :
    (Form.modrm fun reg => .rmW fun e => .done (.esc x reg e)).Codes op :=
  modrm fun reg => ev (by subst hop; rfl)

theorem row0_codes : ∀ n < 16, (row0 n).Codes (BitVec.ofNat 8 (16 * 0x0 + n)) := by
  intro n hn
  interval_cases n <;> dsimp only [row0]
  exacts [ebGb rfl, evGv rfl, ebGb rfl, evGv rfl, ib rfl, iw rfl, nop rfl, nop rfl, ebGb rfl, evGv rfl, ebGb rfl,
    evGv rfl, ib rfl, iw rfl, nop rfl, nop rfl]

theorem row1_codes : ∀ n < 16, (row1 n).Codes (BitVec.ofNat 8 (16 * 0x1 + n)) := by
  intro n hn
  interval_cases n <;> dsimp only [row1]
  exacts [ebGb rfl, evGv rfl, ebGb rfl, evGv rfl, ib rfl, iw rfl, nop rfl, nop rfl, ebGb rfl, evGv rfl, ebGb rfl,
    evGv rfl, ib rfl, iw rfl, nop rfl, nop rfl]

theorem row2_codes : ∀ n < 16, (row2 n).Codes (BitVec.ofNat 8 (16 * 0x2 + n)) := by
  intro n hn
  interval_cases n <;> dsimp only [row2]
  exacts [ebGb rfl, evGv rfl, ebGb rfl, evGv rfl, ib rfl, iw rfl, nop rfl, nop rfl, ebGb rfl, evGv rfl, ebGb rfl,
    evGv rfl, ib rfl, iw rfl, nop rfl, nop rfl]

theorem row3_codes : ∀ n < 16, (row3 n).Codes (BitVec.ofNat 8 (16 * 0x3 + n)) := by
  intro n hn
  interval_cases n <;> dsimp only [row3]
  exacts [ebGb rfl, evGv rfl, ebGb rfl, evGv rfl, ib rfl, iw rfl, nop rfl, nop rfl, ebGb rfl, evGv rfl, ebGb rfl,
    evGv rfl, ib rfl, iw rfl, nop rfl, nop rfl]

theorem row4_codes : ∀ n < 16, (row4 n).Codes (BitVec.ofNat 8 (16 * 0x4 + n)) := by
  intro n hn
  interval_cases n <;> dsimp only [row4]
  all_goals exact nop rfl

theorem row5_codes : ∀ n < 16, (row5 n).Codes (BitVec.ofNat 8 (16 * 0x5 + n)) := by
  intro n hn
  interval_cases n <;> dsimp only [row5]
  all_goals exact nop rfl

theorem row6_codes : ∀ n < 16, (row6 n).Codes (BitVec.ofNat 8 (16 * 0x6 + n)) := by
  intro n hn
  interval_cases n <;> dsimp only [row6]
  all_goals exact ib rfl

theorem row7_codes : ∀ n < 16, (row7 n).Codes (BitVec.ofNat 8 (16 * 0x7 + n)) := by
  intro n hn
  interval_cases n <;> dsimp only [row7]
  all_goals exact ib rfl

theorem row8_codes : ∀ n < 16, (row8 n).Codes (BitVec.ofNat 8 (16 * 0x8 + n)) := by
  intro n hn
  interval_cases n <;> dsimp only [row8]
  exacts [grp80, grp81, grp82, grp83, ebGb rfl, evGv rfl, ebGb rfl, evGv rfl, ebGb rfl, evGv rfl, ebGb rfl, evGv rfl,
    movFromSeg, evGv rfl, movToSeg, grp8F]

theorem row9_codes : ∀ n < 16, (row9 n).Codes (BitVec.ofNat 8 (16 * 0x9 + n)) := by
  intro n hn
  interval_cases n <;> dsimp only [row9]
  exacts [nop rfl, nop rfl, nop rfl, nop rfl, nop rfl, nop rfl, nop rfl, nop rfl, nop rfl, nop rfl, far rfl, nop rfl,
    nop rfl, nop rfl, nop rfl, nop rfl]

theorem rowA_codes : ∀ n < 16, (rowA n).Codes (BitVec.ofNat 8 (16 * 0xA + n)) := by
  intro n hn
  interval_cases n <;> dsimp only [rowA]
  exacts [iw rfl, iw rfl, iw rfl, iw rfl, nop rfl, nop rfl, nop rfl, nop rfl, ib rfl, iw rfl, nop rfl, nop rfl,
    nop rfl, nop rfl, nop rfl, nop rfl]

theorem rowB_codes : ∀ n < 16, (rowB n).Codes (BitVec.ofNat 8 (16 * 0xB + n)) := by
  intro n hn
  interval_cases n <;> dsimp only [rowB]
  exacts [ib rfl, ib rfl, ib rfl, ib rfl, ib rfl, ib rfl, ib rfl, ib rfl, iw rfl, iw rfl, iw rfl, iw rfl, iw rfl,
    iw rfl, iw rfl, iw rfl]

theorem rowC_codes : ∀ n < 16, (rowC n).Codes (BitVec.ofNat 8 (16 * 0xC + n)) := by
  intro n hn
  interval_cases n <;> dsimp only [rowC]
  exacts [iw rfl, nop rfl, iw rfl, nop rfl, evGv rfl, evGv rfl, grpC6, grpC7, iw rfl, nop rfl, iw rfl, nop rfl,
    nop rfl, ib rfl, nop rfl, nop rfl]

theorem rowD_codes : ∀ n < 16, (rowD n).Codes (BitVec.ofNat 8 (16 * 0xD + n)) := by
  intro n hn
  interval_cases n <;> dsimp only [rowD]
  exacts [grpD0, grpD1, grpD2, grpD3, ib rfl, ib rfl, nop rfl, nop rfl, escape rfl, escape rfl, escape rfl,
    escape rfl, escape rfl, escape rfl, escape rfl, escape rfl]

theorem rowE_codes : ∀ n < 16, (rowE n).Codes (BitVec.ofNat 8 (16 * 0xE + n)) := by
  intro n hn
  interval_cases n <;> dsimp only [rowE]
  exacts [ib rfl, ib rfl, ib rfl, ib rfl, ib rfl, ib rfl, ib rfl, ib rfl, iw rfl, iw rfl, far rfl, ib rfl, nop rfl,
    nop rfl, nop rfl, nop rfl]

theorem rowF_codes : ∀ n < 16, (rowF n).Codes (BitVec.ofNat 8 (16 * 0xF + n)) := by
  intro n hn
  interval_cases n <;> dsimp only [rowF]
  exacts [nop rfl, nop rfl, nop rfl, nop rfl, nop rfl, nop rfl, grpF6, grpF7, nop rfl, nop rfl, nop rfl, nop rfl,
    nop rfl, nop rfl, grpFE, grpFF]

end Entry

/-- A row of the opcode map has the opcode bytes with its high nibble. -/
theorem codes_of_row {row : Nat → Form} {k : Nat} (h : ∀ n < 16, (row n).Codes (BitVec.ofNat 8 (16 * k + n)))
    {b : Byte} (hb : b.toNat / 16 = k) : (row (b.toNat % 16)).Codes b := by
  have hrow := h (b.toNat % 16) (Nat.mod_lt _ (by decide))
  rwa [← hb, Nat.div_add_mod, BitVec.ofNat_toNat, BitVec.setWidth_eq] at hrow

open Entry in
/-- R135: every byte of the opcode map has a form that reads the well-formed instructions of that byte. -/
theorem codes_knownForm (b : Byte) : (knownForm b).Codes b := by
  obtain ⟨k, h⟩ : ∃ k, b.toNat / 16 = k := ⟨_, rfl⟩
  have hk : k < 16 := by
    have hb := b.isLt
    omega
  rw [knownForm, h]
  interval_cases k
  exacts [codes_of_row row0_codes h, codes_of_row row1_codes h, codes_of_row row2_codes h, codes_of_row row3_codes h,
    codes_of_row row4_codes h, codes_of_row row5_codes h, codes_of_row row6_codes h, codes_of_row row7_codes h,
    codes_of_row row8_codes h, codes_of_row row9_codes h, codes_of_row rowA_codes h, codes_of_row rowB_codes h,
    codes_of_row rowC_codes h, codes_of_row rowD_codes h, codes_of_row rowE_codes h,
    codes_of_row rowF_codes h]

/-- Settles O2: an unknown opcode is one byte; every other byte has a form of the opcode map, which reads well-formed
instructions from their own bytes. -/
theorem encodeOfDecode : Obligations.EncodeOfDecode := by
  intro cfg bytes i rest h
  cases bytes with
  | nil => cases h
  | cons op bs =>
    change (opForm cfg op).run bs = _ at h
    cases hop : (cfg.undoc == .noop && undocByte op)
    · rw [opForm_of_known hop] at h
      obtain ⟨hok, hknown, hbytes⟩ := (codes_knownForm op).sound h
      obtain ⟨op', body, henc, -⟩ := reads_of_operandOk hok hknown
      have hop' : op = op' := by
        rw [henc] at hbytes
        exact (List.cons.inj hbytes).1
      refine ⟨?_, hbytes⟩
      rw [Instr.wf, hok, Instr.opcodeOk_of_known hknown, Instr.opByte, henc, List.headD_cons, ← hop', hop]
      rfl
    · rw [opForm_of_unknown hop] at h
      cases h
      exact ⟨hop, rfl⟩

/-- R132: five bytes after the opcode byte are enough for its form. -/
theorem opForm_total (cfg : Config) (op : Byte) {bs : List Byte} (hbs : 5 ≤ bs.length) :
    ∃ i rest, (opForm cfg op).run bs = .ok (i, rest) ∧ bs.length ≤ rest.length + 5 := by
  cases hop : (cfg.undoc == .noop && undocByte op)
  · rw [opForm_of_known hop]
    exact (codes_knownForm op).total bs hbs
  · rw [opForm_of_unknown hop]
    exact ⟨_, bs, rfl, by omega⟩

/-- Every encoding begins with an opcode byte. -/
theorem encode_eq_cons {i : Instr} (hok : i.operandOk = true) : ∃ op body, encode i = op :: body := by
  cases hknown : i.known
  · obtain ⟨b, rfl⟩ := Instr.eq_unknownOpcode hknown
    exact ⟨b, [], rfl⟩
  · obtain ⟨op, body, henc, -⟩ := reads_of_operandOk hok hknown
    exact ⟨op, body, henc⟩

/-- What decodes takes at least one byte. -/
theorem length_lt_of_decode {cfg : Config} {bytes : List Byte} {i : Instr} {rest : List Byte}
    (h : decode cfg bytes = .ok (i, rest)) : rest.length < bytes.length := by
  obtain ⟨hwf, rfl⟩ := encodeOfDecode cfg bytes i rest h
  obtain ⟨op, body, henc⟩ := encode_eq_cons (Bool.and_eq_true_iff.mp hwf).1
  simp only [henc, List.length_append, List.length_cons]
  omega

/-- Settles O3: the form of the first byte reads an instruction from the five bytes after it. -/
theorem sixBytesDecode : Obligations.SixBytesDecode := by
  intro cfg bytes hlen
  cases bytes with
  | nil => cases hlen
  | cons op bs =>
    rw [List.length_cons] at hlen ⊢
    obtain ⟨i, rest, hrun, hrest⟩ := opForm_total cfg op (bs := bs) (by omega)
    have hdecode : decode cfg (op :: bs) = .ok (i, rest) := hrun
    exact ⟨i, rest, hdecode, length_lt_of_decode hdecode, by omega⟩

/-- Settles O4: the decoder is run on the words. -/
theorem handWrittenWords : Obligations.HandWrittenWords := by
  refine ⟨?_, ?_, ?_, ?_, ?_, ?_, ?_, ?_⟩ <;> decide

end Sys2Proof
end

section
/-! The flags image, addresses, word accesses and the stack (10_state.md section 4, 20_memory.md, 30_encoding.md
section 2). -/

namespace Sys2Proof.Machine

open Sys2Proof Sys2Proof.Claims

/-- Settles O14. -/
theorem flagsImage : Obligations.FlagsImage := by
  refine ⟨fun f => ?_, image_ofImage, ofImage_image⟩
  rw [Flags.image, flagBit, flagBit, flagBit, flagBit, flagBit, flagBit, flagBit, flagBit, flagBit,
    BitVec.shiftLeft_zero]
  rfl

/-- R81: a physical address as a number. -/
theorem toNat_phys (sg off : Word) : (phys sg off).toNat = (16 * sg.toNat + off.toNat) % 2 ^ 20 := by
  have hsg := sg.isLt
  simp only [phys, BitVec.toNat_add, BitVec.toNat_shiftLeft, BitVec.toNat_setWidth, Nat.shiftLeft_eq]
  omega

/-- Settles O15. -/
theorem physicalAddress : Obligations.PhysicalAddress :=
  ⟨toNat_phys, by decide, fun sg off => (State.phys_succ_ne sg off).symm⟩

/-! ## Effective addresses (R124 to R129) -/

/-- R131: a signed displacement is added modulo 2^16. -/
theorem toNat_add_sext16 (w : Word) (d : Byte) : ((w + sext16 d).toNat : Int) = (w.toNat + d.toInt) % 2 ^ 16 := by
  have hd : ((sext16 d).toNat : Int) = d.toInt % 2 ^ 16 := by
    rw [sext16, BitVec.signExtend, BitVec.toNat_ofInt, Int.toNat_of_nonneg (Int.emod_nonneg _ (by decide))]
    rfl
  rw [BitVec.toNat_add]
  push_cast
  rw [hd]
  exact Int.add_emod_emod _ _ _

/-- The forms with BP as a base use SS (R124). -/
theorem segValue_segment (s : State) (b : BaseIndex) (hovr : s.ovr = none) :
    s.segValue (BaseIndex.segment b) = if b ∈ [.bpSi, .bpDi, .bp] then s.segs.ss else s.segs.ds := by
  cases b <;> simp [State.segValue, hovr, BaseIndex.segment, Segs.get]

/-- Settles O16. -/
theorem effectiveAddress : Obligations.EffectiveAddress := by
  intro r d w
  refine ⟨rfl, BitVec.toNat_add .., BitVec.toNat_add .., BitVec.toNat_add .., BitVec.toNat_add .., rfl, rfl, rfl, rfl,
    fun b => toNat_add_sext16 _ d, fun b => BitVec.toNat_add .., fun s x m hovr => ?_, fun s b hovr => ?_⟩
  · rw [State.locate, State.segValue, hovr]
    rfl
  · rw [← segValue_segment s b hovr]
    refine ⟨rfl, rfl, rfl, ?_⟩
    rw [State.locate, State.segValue, hovr]
    rfl

/-! ## Words in memory (20_memory.md R82 to R86) -/

/-- The two bytes of a stored word are read back where they are mapped (R86). -/
theorem physRead_of_storesWords {s t : State} {sg off v : Word} {ws : List (Word × Word)}
    (h : StoresWords s t sg ((off, v) :: ws)) :
    (isUnmapped s.cfg (phys sg off).toNat = false → t.physRead (phys sg off) = loByte v) ∧
      (isUnmapped s.cfg (phys sg (off + 1#16)).toNat = false → t.physRead (phys sg (off + 1#16)) = hiByte v) := by
  refine ⟨fun hlo => ?_, fun hhi => ?_⟩
  · rw [h.1, if_neg (by simp [hlo]), storedByte, if_pos rfl]
    rfl
  · rw [h.1, if_neg (by simp [hhi]), storedByte, if_neg (State.phys_succ_ne sg off), if_pos rfl]
    rfl

/-- A stored word is read back where both bytes are mapped (R86). -/
theorem readWord_of_storesWords {s t : State} {sg off v : Word} {ws : List (Word × Word)}
    (h : StoresWords s t sg ((off, v) :: ws)) (hlo : isUnmapped s.cfg (phys sg off).toNat = false)
    (hhi : isUnmapped s.cfg (phys sg (off + 1#16)).toNat = false) : t.readWord sg off = v := by
  obtain ⟨hread, hread'⟩ := physRead_of_storesWords h
  rw [State.readWord, hread hlo, hread' hhi, mkWord_hi_lo]

/-- Settles O17. -/
theorem wordAccess : Obligations.WordAccess := by
  intro s sg off v
  have hstores := storesWords_writeWord s sg off v
  obtain ⟨hread, hread'⟩ := physRead_of_storesWords hstores
  refine ⟨_, rfl, hstores, fun hlo hhi => ⟨readWord_of_storesWords hstores hlo hhi, hread hlo, ?_⟩, fun pa hpa => ?_⟩
  · exact (hread' hhi).trans (hiByte_eq_extractLsb' v)
  · refine ⟨?_, physRead_unmapped s pa hpa⟩
    rw [State.writeWord_physRead, if_pos hpa]

/-! ## The stack (20_memory.md R90) -/

/-- SP lowered and raised again by 2 is SP. -/
theorem Regs.set_sp_sub_add (r : Regs) : (r.set .sp (r.sp - 2)).set .sp ((r.set .sp (r.sp - 2)).sp + 2) = r := by
  show { r with sp := r.sp - 2 + 2 } = r
  rw [BitVec.sub_add_cancel]

/-- Settles O18: the word on top of the stack is that of the push, at the SP that the push left. -/
theorem pushThenPop : Obligations.PushThenPop := by
  intro s v
  have hstores := storesWords_push16 s v
  refine ⟨writesReg_set _ _ _ _ (State.push16_regs s v), hstores, rfl, rfl, writesReg_set _ _ _ _ rfl,
    fun hlo hhi => ⟨?_, ?_⟩⟩
  · have hnext : s.regs.sp - 2 + 1 = s.regs.sp - 1 := by bv_omega
    rw [← hnext] at hhi
    show State.readWord _ (s.push16 v).segs.ss (s.push16 v).regs.sp = v
    rw [State.push16_segs, State.push16_regs]
    exact readWord_of_storesWords hstores hlo hhi
  · rw [pop16_state, State.push16_regs]
    exact s.regs.set_sp_sub_add

end Sys2Proof.Machine
end

section
/-! The Flag/ALU Engine (41_arithmetic.md, 42_logic.md): what carry, overflow and auxiliary carry say of the integer
result, shifts and rotates in closed form, and the divisions. -/

namespace Sys2Proof.Machine

open Sys2Proof Sys2Proof.Claims

/-! ## Carry, overflow and auxiliary carry (41_arithmetic.md R251, R252) -/

/-- A bit as a digit of the number. -/
theorem getLsbD_eq_decide {n : Nat} (x : BitVec n) (k : Nat) : x.getLsbD k = decide (x.toNat / 2 ^ k % 2 = 1) :=
  Nat.testBit_eq_decide_div_mod_eq

/-- Bit 4 of the exclusive or of three words is 1 exactly when an odd number of them has it. -/
theorem auxiliary_iff {n : Nat} (a b r : BitVec n) :
    auxiliary a b r = true ↔ (a.toNat / 16 + b.toNat / 16 + r.toNat / 16) % 2 = 1 := by
  rw [auxiliary, BitVec.getLsbD_xor, BitVec.getLsbD_xor, getLsbD_eq_decide, getLsbD_eq_decide, getLsbD_eq_decide]
  simp only [Nat.reducePow]
  by_cases ha : a.toNat / 16 % 2 = 1 <;> by_cases hb : b.toNat / 16 % 2 = 1 <;>
    by_cases hr : r.toNat / 16 % 2 = 1 <;> simp only [ha, hb, hr] <;> simp <;> omega

/-- The signs say that a sum does not fit: both operands differ from the result. -/
theorem overflow_of_add_iff {n : Nat} (hn : n = 8 ∨ n = 16) {a b r : BitVec n} {c : Bool}
    (hr : r.toNat = (a.toNat + b.toNat + c.toNat) % 2 ^ n) :
    ((a ^^^ r) &&& (b ^^^ r)).msb = true ↔ r.toInt ≠ a.toInt + b.toInt + c.toNat := by
  have hc := Bool.toNat_le c
  rw [BitVec.msb_and, BitVec.msb_xor, BitVec.msb_xor]
  simp only [BitVec.msb_eq_decide, BitVec.toInt_eq_toNat_cond, Bool.and_eq_true, bne_iff_ne, ne_eq, decide_eq_decide]
  obtain rfl | rfl := hn <;> norm_num at * <;> split_ifs <;> omega

/-- The signs say that a difference does not fit: the minuend differs from the subtrahend and from the result. -/
theorem overflow_of_sub_iff {n : Nat} (hn : n = 8 ∨ n = 16) {a b r : BitVec n} {c : Bool}
    (hr : (r.toNat : Int) = ((a.toNat : Int) - b.toNat - c.toNat) % 2 ^ n) :
    ((a ^^^ b) &&& (a ^^^ r)).msb = true ↔ r.toInt ≠ a.toInt - b.toInt - c.toNat := by
  have hc := Bool.toNat_le c
  rw [BitVec.msb_and, BitVec.msb_xor, BitVec.msb_xor]
  simp only [BitVec.msb_eq_decide, BitVec.toInt_eq_toNat_cond, Bool.and_eq_true, bne_iff_ne, ne_eq, decide_eq_decide]
  obtain rfl | rfl := hn <;> norm_num at * <;> split_ifs <;> omega

/-- AF is the carry out of the low four bits. -/
theorem auxiliary_of_add_iff {n : Nat} (hn : n = 8 ∨ n = 16) {a b r : BitVec n} {c : Bool}
    (hr : r.toNat = (a.toNat + b.toNat + c.toNat) % 2 ^ n) :
    auxiliary a b r = true ↔ 16 ≤ a.toNat % 16 + b.toNat % 16 + c.toNat := by
  have hc := Bool.toNat_le c
  rw [auxiliary_iff, hr]
  obtain rfl | rfl := hn <;> omega

/-- AF is the borrow into the low four bits. -/
theorem auxiliary_of_sub_iff {n : Nat} (hn : n = 8 ∨ n = 16) {a b r : BitVec n} {c : Bool}
    (hr : (r.toNat : Int) = ((a.toNat : Int) - b.toNat - c.toNat) % 2 ^ n) :
    auxiliary a b r = true ↔ a.toNat % 16 < b.toNat % 16 + c.toNat := by
  have hc := Bool.toNat_le c
  rw [auxiliary_iff]
  obtain rfl | rfl := hn <;> omega

/-- A sum of two words and a carry does not fit exactly when it reaches the modulus. -/
theorem carry_of_add_iff {n : Nat} {a b r : BitVec n} {c : Bool}
    (hr : r.toNat = (a.toNat + b.toNat + c.toNat) % 2 ^ n) :
    2 ^ n ≤ a.toNat + b.toNat + c.toNat ↔ r.toNat < a.toNat + b.toNat + c.toNat := by
  constructor
  · intro hge
    exact r.isLt.trans_le hge
  · intro hlt
    by_contra hge
    rw [hr, Nat.mod_eq_of_lt (by omega)] at hlt
    exact lt_irrefl _ hlt

/-- Settles O19: the flags of R251 and R252 are read as statements about the exact sum and difference. -/
theorem carryAndOverflow : Obligations.CarryAndOverflow := by
  intro n hn a b c f
  obtain ⟨⟨hsum, haddCf, haddOf, -⟩, haddAf, -⟩ := addHolds_addFlags a b c f
  obtain ⟨⟨hdiff, hsubCf, hsubOf, -⟩, hsubAf, -⟩ := subHolds_subFlags a b c f
  rw [haddCf, haddOf, haddAf, hsubCf, hsubOf, hsubAf, decide_eq_true_iff, decide_eq_true_iff]
  exact ⟨carry_of_add_iff hsum, overflow_of_add_iff hn hsum, auxiliary_of_add_iff hn hsum, Iff.rfl,
    overflow_of_sub_iff hn hdiff, auxiliary_of_sub_iff hn hdiff⟩

end Sys2Proof.Machine
end

section
/-! Shifts and rotates (42_logic.md R306 to R313): single steps as shifts and rotations by 1, and from them the closed
form of every count. -/

namespace Sys2Proof.Machine

open Sys2Proof Sys2Proof.Claims

/-! ## Steps and rotations -/

/-- R306: the last step may be taken after the others. -/
theorem shiftSteps_succ {n : Nat} (op : ShiftOp) (k : Nat) (p : BitVec n × Bool) :
    shiftSteps op (k + 1) p = shiftStep op (shiftSteps op k p) := by
  induction k generalizing p with
  | zero => rfl
  | succ k ih => exact ih (shiftStep op p)

/-- Rotations to the left add up. -/
theorem rotateLeft_rotateLeft {n : Nat} (x : BitVec n) (j k : Nat) :
    (x.rotateLeft j).rotateLeft k = x.rotateLeft (j + k) := by
  apply BitVec.eq_of_getMsbD_eq
  intro i hi
  simp only [BitVec.getMsbD_rotateLeft, hi, Nat.mod_lt _ (Nat.zero_lt_of_lt hi), decide_true, Bool.true_and,
    Nat.add_mod_mod, Nat.add_assoc]

/-- A bit of a rotation to the right. -/
theorem getLsbD_rotateRight_eq {n : Nat} (x : BitVec n) (k i : Nat) (hi : i < n) :
    (x.rotateRight k).getLsbD i = x.getLsbD ((k + i) % n) := by
  have hn := Nat.zero_lt_of_lt hi
  have hk := Nat.mod_lt k hn
  rw [BitVec.getLsbD_rotateRight, Nat.add_mod k i n, Nat.mod_eq_of_lt hi]
  generalize k % n = j at hk
  by_cases hlow : i < n - j
  · rw [Nat.mod_eq_of_lt (by omega)]
    simp [hlow]
  · rw [Nat.mod_eq_sub_mod (by omega), Nat.mod_eq_of_lt (by omega)]
    have hplace : i - (n - j) = j + i - n := by omega
    simp [hlow, hi, hplace]

/-- Rotations to the right add up. -/
theorem rotateRight_rotateRight {n : Nat} (x : BitVec n) (j k : Nat) :
    (x.rotateRight j).rotateRight k = x.rotateRight (j + k) := by
  apply BitVec.eq_of_getLsbD_eq
  intro i hi
  rw [getLsbD_rotateRight_eq _ _ _ hi, getLsbD_rotateRight_eq _ _ _ (Nat.mod_lt _ (Nat.zero_lt_of_lt hi)),
    getLsbD_rotateRight_eq _ _ _ hi, Nat.add_mod_mod, Nat.add_assoc]

/-- A rotation to the left by the width changes nothing. -/
theorem rotateLeft_width {n : Nat} (x : BitVec n) : x.rotateLeft n = x := by
  apply BitVec.eq_of_getMsbD_eq
  intro i hi
  simp [BitVec.getMsbD_rotateLeft, hi, Nat.mod_eq_of_lt hi]

/-- A rotation to the right by the width changes nothing. -/
theorem rotateRight_width {n : Nat} (x : BitVec n) : x.rotateRight n = x := by
  apply BitVec.eq_of_getLsbD_eq
  intro i hi
  rw [getLsbD_rotateRight_eq _ _ _ hi, Nat.add_mod_left, Nat.mod_eq_of_lt hi]

/-! ## ROL and ROR (R307, R308) -/

/-- R307: one step to the left. -/
theorem shiftStep_rol {n : Nat} (hn : 1 < n) (p : BitVec n × Bool) :
    shiftStep .rol p = (p.1.rotateLeft 1, (p.1.rotateLeft 1).getLsbD 0) := by
  have hvalue : (p.1 <<< 1) ||| lowBit n p.1.msb = p.1.rotateLeft 1 := by
    apply BitVec.eq_of_getLsbD_eq
    intro i hi
    by_cases hzero : i = 0
    · subst hzero
      simp [lowBit, Nat.mod_eq_of_lt hn, BitVec.msb_eq_getLsbD_last, hi]
    · have hpos : ¬ i < 1 := by omega
      simp [lowBit, Nat.mod_eq_of_lt hn, hi, hpos, hzero]
  have hcarry : (p.1.rotateLeft 1).getLsbD 0 = p.1.msb := by
    simp [BitVec.getLsbD_rotateLeft, Nat.mod_eq_of_lt hn, BitVec.msb_eq_getLsbD_last]
  rw [hcarry, ← hvalue]
  rfl

/-- R308: one step to the right. -/
theorem shiftStep_ror {n : Nat} (hn : 1 < n) (p : BitVec n × Bool) :
    shiftStep .ror p = (p.1.rotateRight 1, (p.1.rotateRight 1).msb) := by
  have hlast : (1 + (n - 1)) % n = 0 := by
    rw [Nat.add_sub_cancel' hn.le, Nat.mod_self]
  have hvalue : (p.1 >>> 1) ||| highBit n (p.1.getLsbD 0) = p.1.rotateRight 1 := by
    apply BitVec.eq_of_getLsbD_eq
    intro i hi
    rw [getLsbD_rotateRight_eq _ _ _ hi]
    by_cases htop : i = n - 1
    · subst htop
      rw [hlast]
      have hout : 1 + (n - 1) = n := by omega
      simp [highBit, lowBit, hi, hout]
    · have hlow : i < n - 1 := by omega
      rw [Nat.mod_eq_of_lt (by omega)]
      simp [highBit, hlow]
  have hcarry : (p.1.rotateRight 1).msb = p.1.getLsbD 0 := by
    rw [BitVec.msb_eq_getLsbD_last, getLsbD_rotateRight_eq _ _ _ (by omega), hlast]
  rw [hcarry, ← hvalue]
  rfl

/-- R307 for every count. -/
theorem shiftSteps_rol {n : Nat} (hn : 1 < n) (k : Nat) (p : BitVec n × Bool) :
    shiftSteps .rol (k + 1) p = (p.1.rotateLeft (k + 1), (p.1.rotateLeft (k + 1)).getLsbD 0) := by
  induction k with
  | zero => exact shiftStep_rol hn p
  | succ k ih => rw [shiftSteps_succ, ih, shiftStep_rol hn, rotateLeft_rotateLeft]

/-- R308 for every count. -/
theorem shiftSteps_ror {n : Nat} (hn : 1 < n) (k : Nat) (p : BitVec n × Bool) :
    shiftSteps .ror (k + 1) p = (p.1.rotateRight (k + 1), (p.1.rotateRight (k + 1)).msb) := by
  induction k with
  | zero => exact shiftStep_ror hn p
  | succ k ih => rw [shiftSteps_succ, ih, shiftStep_ror hn, rotateRight_rotateRight]

/-! ## RCL and RCR (R309, R310): rotations of the operand with CF above it -/

/-- The operand with CF above it. -/
def withCarry {n : Nat} (p : BitVec n × Bool) : BitVec (1 + n) := BitVec.ofBool p.2 ++ p.1

/-- The operand and CF of a word of one bit more. -/
def splitCarry {n : Nat} (y : BitVec (1 + n)) : BitVec n × Bool := (y.setWidth n, y.msb)

theorem getLsbD_withCarry {n : Nat} (p : BitVec n × Bool) (i : Nat) :
    (withCarry p).getLsbD i = if i < n then p.1.getLsbD i else decide (i = n) && p.2 := by
  rw [withCarry, BitVec.getLsbD_append, BitVec.getLsbD_ofBool]
  by_cases hi : i < n
  · simp [hi]
  · have heq : decide (i - n = 0) = decide (i = n) := decide_eq_decide.mpr (by omega)
    simp [hi, heq]

theorem splitCarry_withCarry {n : Nat} (p : BitVec n × Bool) : splitCarry (withCarry p) = p := by
  refine Prod.ext ?_ ?_
  · apply BitVec.eq_of_getLsbD_eq
    intro i hi
    simp [splitCarry, getLsbD_withCarry, hi]
  · rw [splitCarry, BitVec.msb_eq_getLsbD_last, getLsbD_withCarry, Nat.add_sub_cancel_left]
    simp

/-- R309: one step rotates the operand with CF above it to the left. -/
theorem withCarry_shiftStep_rcl {n : Nat} (hn : 1 < n) (p : BitVec n × Bool) :
    withCarry (shiftStep .rcl p) = (withCarry p).rotateLeft 1 := by
  apply BitVec.eq_of_getLsbD_eq
  intro i hi
  rw [BitVec.getLsbD_rotateLeft, Nat.mod_eq_of_lt (by omega), getLsbD_withCarry, getLsbD_withCarry,
    getLsbD_withCarry]
  by_cases hzero : i = 0
  · subst hzero
    have hpos : 0 < n := by omega
    simp [shiftStep, lowBit, hpos]
  · by_cases htop : i = n
    · subst htop
      have hlast : i - 1 < i := by omega
      simp [shiftStep, lowBit, hzero, hlast, hi, BitVec.msb_eq_getLsbD_last]
    · have hlow : i < n := by omega
      have hlow' : i - 1 < n := by omega
      simp [shiftStep, lowBit, hzero, hlow, hlow', hi]

/-- R310: one step rotates the operand with CF above it to the right. -/
theorem withCarry_shiftStep_rcr {n : Nat} (hn : 1 < n) (p : BitVec n × Bool) :
    withCarry (shiftStep .rcr p) = (withCarry p).rotateRight 1 := by
  apply BitVec.eq_of_getLsbD_eq
  intro i hi
  rw [getLsbD_rotateRight_eq _ _ _ hi, getLsbD_withCarry, getLsbD_withCarry]
  by_cases htop : i = n
  · subst htop
    have hpos : 0 < i := by omega
    simp [shiftStep, highBit, lowBit, hpos]
  · have hlow : i < n := by omega
    rw [Nat.mod_eq_of_lt (by omega)]
    by_cases hlast : i = n - 1
    · subst hlast
      have hout : 1 + (n - 1) = n := by omega
      simp [shiftStep, highBit, lowBit, hlow, hout]
    · have hnext : 1 + i < n := by omega
      have hnext' : i < n - 1 := by omega
      simp [shiftStep, highBit, lowBit, hlow, hnext, hnext']

/-- R309 for every count, 0 among them. -/
theorem shiftSteps_rcl {n : Nat} (hn : 1 < n) (k : Nat) (p : BitVec n × Bool) :
    shiftSteps .rcl k p = splitCarry ((withCarry p).rotateLeft k) := by
  have hjoined : withCarry (shiftSteps .rcl k p) = (withCarry p).rotateLeft k := by
    induction k with
    | zero => simp [shiftSteps, BitVec.rotateLeft_def, BitVec.ushiftRight_eq_zero le_rfl]
    | succ k ih => rw [shiftSteps_succ, withCarry_shiftStep_rcl hn, ih, rotateLeft_rotateLeft]
  rw [← hjoined, splitCarry_withCarry]

/-- R310 for every count, 0 among them. -/
theorem shiftSteps_rcr {n : Nat} (hn : 1 < n) (k : Nat) (p : BitVec n × Bool) :
    shiftSteps .rcr k p = splitCarry ((withCarry p).rotateRight k) := by
  have hjoined : withCarry (shiftSteps .rcr k p) = (withCarry p).rotateRight k := by
    induction k with
    | zero => simp [shiftSteps, BitVec.rotateRight_def]
    | succ k ih => rw [shiftSteps_succ, withCarry_shiftStep_rcr hn, ih, rotateRight_rotateRight]
  rw [← hjoined, splitCarry_withCarry]

/-! ## SHL, SHR and SAR (R311 to R313) -/

/-- R311 for every count. -/
theorem shiftSteps_shl {n : Nat} (hn : 1 < n) (k : Nat) (p : BitVec n × Bool) :
    shiftSteps .shl (k + 1) p = (p.1 <<< (k + 1), decide (k + 1 ≤ n) && p.1.getLsbD (n - (k + 1))) := by
  have hstep : ∀ y : BitVec n × Bool, shiftStep .shl y = (y.1 <<< 1, y.1.msb) := fun _ => rfl
  have hout : (p.1 <<< k).msb = (decide (k + 1 ≤ n) && p.1.getLsbD (n - (k + 1))) := by
    rw [BitVec.msb_eq_getLsbD_last, BitVec.getLsbD_shiftLeft]
    by_cases hk : k + 1 ≤ n
    · have hplace : n - 1 - k = n - (k + 1) := by omega
      have hin : ¬ n - 1 < k := by omega
      have hlast : n - 1 < n := by omega
      simp [hk, hplace, hin, hlast]
    · have hlow : n - 1 < k := by omega
      simp [hk, hlow]
  rw [← hout]
  cases k with
  | zero => simp [shiftSteps, hstep]
  | succ k => rw [shiftSteps_succ, shiftSteps_shl hn k p, hstep, ← BitVec.shiftLeft_add]

/-- R312 for every count. -/
theorem shiftSteps_shr {n : Nat} (k : Nat) (p : BitVec n × Bool) :
    shiftSteps .shr (k + 1) p = (p.1 >>> (k + 1), p.1.getLsbD k) := by
  induction k with
  | zero => rfl
  | succ k ih =>
    rw [shiftSteps_succ, ih]
    show (p.1 >>> (k + 1) >>> 1, (p.1 >>> (k + 1)).getLsbD 0) = _
    rw [← BitVec.shiftRight_add, BitVec.getLsbD_ushiftRight, Nat.add_zero]

/-- R313: one step keeps the sign. -/
theorem shiftStep_sar {n : Nat} (hn : 1 < n) (p : BitVec n × Bool) :
    shiftStep .sar p = (p.1.sshiftRight 1, p.1.getLsbD 0) := by
  have hvalue : (p.1 >>> 1) ||| highBit n p.1.msb = p.1.sshiftRight 1 := by
    apply BitVec.eq_of_getLsbD_eq
    intro i hi
    rw [BitVec.getLsbD_sshiftRight]
    by_cases htop : i = n - 1
    · subst htop
      have hout : 1 + (n - 1) = n := by omega
      have hin : ¬ n ≤ n - 1 := by omega
      simp [highBit, lowBit, hi, hout, hin]
    · have hnext : 1 + i < n := by omega
      have hin : ¬ n ≤ i := by omega
      have hlow : i < n - 1 := by omega
      simp [highBit, hnext, hin, hlow]
  rw [← hvalue]
  rfl

/-- R313 for every count. -/
theorem shiftSteps_sar {n : Nat} (hn : 1 < n) (k : Nat) (p : BitVec n × Bool) :
    shiftSteps .sar (k + 1) p =
      (p.1.sshiftRight (k + 1), if k + 1 ≤ n then p.1.getLsbD k else p.1.msb) := by
  induction k with
  | zero => rw [if_pos (by omega)]; exact shiftStep_sar hn p
  | succ k ih =>
    rw [shiftSteps_succ, ih, shiftStep_sar hn, ← BitVec.sshiftRight_add, BitVec.getLsbD_sshiftRight]
    have hin : ¬ n ≤ 0 := by omega
    simp [hin]

/-- Settles O20, one operation at a time; a rotation through carry by N + 1 is a rotation of N + 1 bits by their
number. -/
theorem shiftsInClosedForm : Obligations.ShiftsInClosedForm := by
  intro n hn op count x c
  have hwidth : 1 < n := by omega
  refine ⟨fun hcount => ?_, ?_, ?_⟩
  · obtain ⟨k, rfl⟩ := Nat.exists_eq_succ_of_ne_zero hcount
    cases op with
    | rol => exact shiftSteps_rol hwidth k (x, c)
    | ror => exact shiftSteps_ror hwidth k (x, c)
    | rcl => exact shiftSteps_rcl hwidth (k + 1) (x, c)
    | rcr => exact shiftSteps_rcr hwidth (k + 1) (x, c)
    | shl => exact shiftSteps_shl hwidth k (x, c)
    | shr => exact shiftSteps_shr k (x, c)
    | sar => exact shiftSteps_sar hwidth k (x, c)
  · rw [shiftSteps_rcl hwidth, Nat.add_comm n 1, rotateLeft_width, splitCarry_withCarry]
  · rw [shiftSteps_rcr hwidth, Nat.add_comm n 1, rotateRight_width, splitCarry_withCarry]

end Sys2Proof.Machine
end

section
/-! The divisions (41_arithmetic.md R270, R271): their laws, and the instructions DIV, IDIV, MUL and IMUL with the divide
error (60_exceptions.md R502). -/

namespace Sys2Proof.Machine

open Sys2Proof Sys2Proof.Claims

/-! ## The laws of the divisions -/

/-- The quotient of a double-width dividend fits exactly when the divisor exceeds the dividend's upper half. -/
theorem divU_fits_iff {n : Nat} (hi lo d : BitVec n) :
    d ≤ hi ↔ d.toNat = 0 ∨ 2 ^ n ≤ (hi ++ lo).toNat / d.toNat := by
  have hlo := lo.isLt
  rw [BitVec.le_def, toNat_append_halves]
  by_cases hd : d.toNat = 0
  · simp [hd]
  · rw [Nat.le_div_iff_mul_le (Nat.pos_of_ne_zero hd)]
    constructor
    · intro hle
      have := Nat.mul_le_mul_right (2 ^ n) hle
      right
      linarith
    · rintro (hzero | hge)
      · exact absurd hzero hd
      · by_contra hlt
        have := Nat.mul_le_mul_right (2 ^ n) (Nat.succ_le_of_lt (not_le.mp hlt))
        rw [Nat.succ_mul] at this
        linarith

/-- A remainder other than 0 has the sign of the dividend. -/
theorem tmod_eq_zero_or_neg_iff (a b : Int) : a.tmod b = 0 ∨ (a.tmod b < 0 ↔ a < 0) := by
  have hsign := Int.sign_tmod a b
  by_cases hdvd : b ∣ a
  · rw [if_pos hdvd, Int.sign_eq_zero_iff_zero] at hsign
    exact .inl hsign
  · rw [if_neg hdvd] at hsign
    right
    rw [← Int.sign_eq_neg_one_iff_neg, hsign, Int.sign_eq_neg_one_iff_neg]

/-- Settles O21: the two outcomes of each division (`divU_cases`, `divS_cases`) with the division of integers. -/
theorem divisionLaws : Obligations.DivisionLaws := by
  intro n hn hi lo d
  refine ⟨fun q r hdiv => ?_, ?_, fun q r hdiv => ?_, ?_⟩
  · obtain ⟨hlt, q', r', hdiv', hq, hr⟩ | ⟨-, hnone⟩ := divU_cases hi lo d
    · obtain ⟨rfl, rfl⟩ : q' = q ∧ r' = r := by simpa [hdiv] using hdiv'.symm
      rw [hq, hr]
      exact ⟨(Nat.div_add_mod' _ _).symm, Nat.mod_lt _ (Nat.zero_lt_of_lt hlt)⟩
    · rw [hnone] at hdiv
      contradiction
  · rw [← divU_fits_iff]
    obtain ⟨hlt, q, r, hdiv, -⟩ | ⟨hle, hnone⟩ := divU_cases hi lo d
    · exact iff_of_false (by simp [hdiv]) (BitVec.not_le.mpr hlt)
    · exact iff_of_true hnone hle
  · obtain ⟨hd, hfit, q', r', hdiv', hq, hr⟩ | ⟨-, hnone⟩ := divS_cases hn hi lo d
    · obtain ⟨rfl, rfl⟩ : q' = q ∧ r' = r := by simpa [hdiv] using hdiv'.symm
      rw [hq, hr]
      refine ⟨(Int.tdiv_mul_add_tmod _ _).symm, ?_, ?_, ?_⟩
      · rw [Int.natAbs_tmod]
        exact Nat.mod_lt _ (Int.natAbs_pos.mpr hd)
      · exact tmod_eq_zero_or_neg_iff _ _
      · generalize (hi ++ lo).toInt.tdiv d.toInt = quot at hfit
        obtain rfl | rfl := hn <;> norm_num at * <;> omega
    · rw [hnone] at hdiv
      contradiction
  · obtain ⟨hd, hfit, q, r, hdiv, -⟩ | ⟨hlarge, hnone⟩ := divS_cases hn hi lo d
    · exact iff_of_false (by simp [hdiv]) (not_or.mpr ⟨hd, hfit.not_gt⟩)
    · exact iff_of_true hnone hlarge

/-! ## MUL and IMUL (R267, R268) -/

theorem toNat_mulU {n : Nat} (a b : BitVec n) : (mulU a b).toNat = a.toNat * b.toNat := by
  rw [mulU, BitVec.toNat_ofNat, Nat.pow_add, Nat.mod_eq_of_lt (Nat.mul_lt_mul'' a.isLt b.isLt)]

theorem toInt_mulS {n : Nat} (hn : n = 8 ∨ n = 16) (a b : BitVec n) : (mulS a b).toInt = a.toInt * b.toInt := by
  have hle := BitVec.toInt_mul_toInt_le (x := a) (y := b)
  have hge := BitVec.le_toInt_mul_toInt (x := a) (y := b)
  rw [mulS, BitVec.toInt_ofInt]
  obtain rfl | rfl := hn <;> norm_num at hle hge <;> apply Int.bmod_eq_of_le <;> norm_num <;> omega

/-- The halves of a product make it up again. -/
theorem upperHalf_append_lowerHalf {n : Nat} (p : BitVec (n + n)) : upperHalf p ++ lowerHalf p = p := by
  apply BitVec.eq_of_getLsbD_eq
  intro i hi
  rw [BitVec.getLsbD_append]
  by_cases hlow : i < n
  · simp [lowerHalf, hlow]
  · have hplace : n + (i - n) = i := by omega
    have hin : i - n < n := by omega
    simp [upperHalf, hlow, hplace, hin]

/-- R267: the carry of a byte product. -/
theorem mulUCarry_byte (p : BitVec (8 + 8)) : mulUCarry p = decide (256 ≤ p.toNat) := by
  have hp := p.isLt
  rw [mulUCarry, upperHalf, Bool.eq_iff_iff, bne_iff_ne, ne_eq, ← BitVec.toNat_inj, decide_eq_true_iff]
  simp only [BitVec.extractLsb'_toNat, Nat.shiftRight_eq_div_pow]
  simp
  omega

/-- R268: the carry of a byte product says that it does not fit a signed byte. -/
theorem mulSCarry_byte (p : BitVec (8 + 8)) : mulSCarry p = decide (p.toInt < -128 ∨ 128 ≤ p.toInt) := by
  have hp := p.isLt
  rw [mulSCarry, Bool.eq_iff_iff, bne_iff_ne, ne_eq, ← BitVec.toInt_inj, BitVec.toInt_signExtend_of_le (by decide),
    lowerHalf, BitVec.toInt_setWidth, decide_eq_true_iff, BitVec.toInt_eq_toNat_cond, Int.bmod_def]
  norm_num
  split_ifs <;> omega

/-- R267, R268: a product is refused neither without a REP byte nor under the variant `intel`. -/
theorem mulGuard_eq_next {s : State} (hrep : s.rep = none) (hintel : s.cfg.cpuVariant = .intel) (t : State) :
    s.mulGuard t = .next t := by
  rw [State.mulGuard, hrep, hintel]
  rfl

/-- R267, R268: a byte product is written to AX, with its carry in CF and OF; four flags are free. -/
theorem mulEnd_byte (s : State) (p : Word) (c : Bool) :
    ∃ t, (s.setReg .ax p).mulEnd c = t ∧ OnlyData s t ∧ NoStore s t ∧ SystemFlagsKept s.flags t.flags ∧
      KeepsRegsBut [.ax] s t ∧ t.regs.ax = p ∧ t.flags.CF = c ∧ t.flags.OF = t.flags.CF :=
  ⟨_, rfl, rfl, noStore_of rfl rfl rfl rfl, ⟨rfl, rfl, rfl⟩, keepsRegsBut_set rfl, rfl, rfl, rfl⟩

/-- A write of two word registers leaves the others as they were. -/
theorem keepsRegsBut_set_set {s t : State} {q r : Reg} {v w : Word} (h : t.regs = (s.regs.set q v).set r w) :
    KeepsRegsBut [q, r] s t := by
  intro x hx
  simp only [List.mem_cons, List.not_mem_nil, or_false, not_or] at hx
  rw [h, Regs.get_set, if_neg hx.2, Regs.get_set, if_neg hx.1]

/-- R267, R268: a word product is written to DX:AX, with its carry in CF and OF; four flags are free. -/
theorem mulEnd_word (s : State) (p : BitVec (16 + 16)) (c : Bool) :
    ∃ t, (s.setPair p).mulEnd c = t ∧ OnlyData s t ∧ NoStore s t ∧ SystemFlagsKept s.flags t.flags ∧
      KeepsRegsBut [.ax, .dx] s t ∧ t.regs.ax = lowerHalf p ∧ t.regs.dx = upperHalf p ∧ t.flags.CF = c ∧
      t.flags.OF = t.flags.CF :=
  ⟨_, rfl, rfl, noStore_of rfl rfl rfl rfl, ⟨rfl, rfl, rfl⟩, keepsRegsBut_set_set rfl, rfl, rfl, rfl, rfl⟩

/-- Settles O29: each form writes its exact product, from which the carry is read. -/
theorem multiplyForms : Obligations.MultiplyForms := by
  intro s e w hrep hintel
  have hguard := mulGuard_eq_next hrep hintel
  refine ⟨?_, ?_, ?_, ?_⟩
  · obtain ⟨t, ht, honly, hstore, hsys, hkeep, hax, hcf, hof⟩ :=
      mulEnd_byte s (mulU (s.regs.get8 .al) (s.rdE8 e)) (mulUCarry (mulU (s.regs.get8 .al) (s.rdE8 e)))
    refine ⟨t, (hguard _).trans (congrArg _ ht), honly, hstore, hsys, hkeep, ?_, ?_, hof⟩
    · rw [hax]
      exact toNat_mulU _ _
    · rw [hcf, hax]
      exact mulUCarry_byte _
  · obtain ⟨t, ht, honly, hstore, hsys, hkeep, hax, hdx, hcf, hof⟩ :=
      mulEnd_word s (mulU s.regs.ax (s.rdE16 w)) (mulUCarry (mulU s.regs.ax (s.rdE16 w)))
    refine ⟨t, (hguard _).trans (congrArg _ ht), honly, hstore, hsys, hkeep, ?_, ?_, hof⟩
    · rw [hdx, hax, upperHalf_append_lowerHalf, toNat_mulU]
    · rw [hcf, hdx, decide_not]
      rfl
  · obtain ⟨t, ht, honly, hstore, hsys, hkeep, hax, hcf, hof⟩ :=
      mulEnd_byte s (mulS (s.regs.get8 .al) (s.rdE8 e)) (mulSCarry (mulS (s.regs.get8 .al) (s.rdE8 e)))
    refine ⟨t, (hguard _).trans (congrArg _ ht), honly, hstore, hsys, hkeep, ?_, ?_, hof⟩
    · rw [hax]
      exact toInt_mulS (.inl rfl) _ _
    · rw [hcf, hax]
      exact mulSCarry_byte _
  · obtain ⟨t, ht, honly, hstore, hsys, hkeep, hax, hdx, hcf, hof⟩ :=
      mulEnd_word s (mulS s.regs.ax (s.rdE16 w)) (mulSCarry (mulS s.regs.ax (s.rdE16 w)))
    refine ⟨t, (hguard _).trans (congrArg _ ht), honly, hstore, hsys, hkeep, ?_, ?_, hof⟩
    · rw [hdx, hax, upperHalf_append_lowerHalf, toInt_mulS (.inr rfl)]
    · rw [hcf, hdx, hax, upperHalf_append_lowerHalf, decide_not]
      rfl

/-! ## DIV, IDIV and the divide error (R270, R271, 60_exceptions.md R502) -/

/-- A byte quotient and remainder are written to AL and AH; the six arithmetic flags are free. -/
theorem divide8_some (s : State) (q r : Byte) :
    ∃ t, s.divide8 (some (q, r)) = t ∧ OnlyData s t ∧ NoStore s t ∧ SystemFlagsKept s.flags t.flags ∧
      KeepsRegsBut [.ax] s t ∧ t.regs.get8 .al = q ∧ t.regs.get8 .ah = r :=
  ⟨_, rfl, rfl, noStore_of rfl rfl rfl rfl, ⟨rfl, rfl, rfl⟩, keepsRegsBut_set rfl, get8_al_set_mkWord _ _ _,
    get8_ah_set_mkWord _ _ _⟩

/-- A word quotient and remainder are written to AX and DX; the six arithmetic flags are free. -/
theorem divide16_some (s : State) (q r : Word) :
    ∃ t, s.divide16 (some (q, r)) = t ∧ OnlyData s t ∧ NoStore s t ∧ SystemFlagsKept s.flags t.flags ∧
      KeepsRegsBut [.ax, .dx] s t ∧ t.regs.ax = q ∧ t.regs.dx = r :=
  ⟨_, rfl, rfl, noStore_of rfl rfl rfl rfl, ⟨rfl, rfl, rfl⟩, keepsRegsBut_set_set rfl, rfl, rfl⟩

/-- AX is AH above AL (R31). -/
theorem get8_ah_append_al (r : Regs) : r.get8 .ah ++ r.get8 .al = r.ax := mkWord_hi_lo r.ax

section WithoutRep

variable {s : State} (hrep : s.rep = none)
include hrep

theorem exec_divEb (e : RM Reg8) :
    exec (.divEb e) s = .next (s.divide8 (divU (s.regs.get8 .ah) (s.regs.get8 .al) (s.rdE8 e))) := by
  show execDivEb e s = _
  rw [execDivEb, hrep]
  rfl

theorem exec_divEv (w : RM Reg) :
    exec (.divEv w) s = .next (s.divide16 (divU s.regs.dx s.regs.ax (s.rdE16 w))) := by
  show execDivEv w s = _
  rw [execDivEv, hrep]
  rfl

theorem exec_idivEb (e : RM Reg8) :
    exec (.idivEb e) s = .next (s.divide8 (divS (s.regs.get8 .ah) (s.regs.get8 .al) (s.rdE8 e))) := by
  show execIdivEb e s = _
  rw [execIdivEb, hrep]
  rfl

theorem exec_idivEv (w : RM Reg) :
    exec (.idivEv w) s = .next (s.divide16 (divS s.regs.dx s.regs.ax (s.rdE16 w))) := by
  show execIdivEv w s = _
  rw [execIdivEv, hrep]
  rfl

end WithoutRep

/-- A divisor other than 0 and a quotient in range: IDIV answers. -/
theorem divS_some {n : Nat} (hn : n = 8 ∨ n = 16) {hi lo d : BitVec n} (hd : d ≠ 0#n)
    (hfit : ((hi ++ lo).toInt.tdiv d.toInt).natAbs ≤ 2 ^ (n - 1) - 1) :
    ∃ q r, divS hi lo d = some (q, r) ∧ q.toInt = (hi ++ lo).toInt.tdiv d.toInt ∧
      r.toInt = (hi ++ lo).toInt.tmod d.toInt := by
  obtain ⟨-, -, hdiv⟩ | ⟨hzero | hlarge, -⟩ := divS_cases hn hi lo d
  · exact hdiv
  · exact absurd (BitVec.toInt_inj.mp (hzero.trans BitVec.toInt_zero.symm)) hd
  · exact absurd hfit hlarge.not_ge

/-- A divisor 0 or a quotient out of range: IDIV does not answer. -/
theorem divS_none {n : Nat} (hn : n = 8 ∨ n = 16) {hi lo d : BitVec n}
    (h : d = 0#n ∨ 2 ^ (n - 1) - 1 < ((hi ++ lo).toInt.tdiv d.toInt).natAbs) : divS hi lo d = none := by
  obtain ⟨hd, hfit, -⟩ | ⟨-, hnone⟩ := divS_cases hn hi lo d
  · obtain rfl | hlarge := h
    · exact absurd BitVec.toInt_zero hd
    · exact absurd hfit hlarge.not_ge
  · exact hnone

/-- A divisor above the upper half of the dividend: DIV answers. -/
theorem divU_some {n : Nat} {hi lo d : BitVec n} (h : hi < d) :
    ∃ q r, divU hi lo d = some (q, r) ∧ q.toNat = (hi ++ lo).toNat / d.toNat ∧
      r.toNat = (hi ++ lo).toNat % d.toNat := by
  obtain ⟨-, hdiv⟩ | ⟨hle, -⟩ := divU_cases hi lo d
  · exact hdiv
  · exact absurd h (BitVec.not_lt.mpr hle)

/-- A divisor not above the upper half of the dividend: DIV does not answer. -/
theorem divU_none {n : Nat} {hi lo d : BitVec n} (h : d ≤ hi) : divU hi lo d = none := by
  obtain ⟨hlt, -⟩ | ⟨-, hnone⟩ := divU_cases hi lo d
  · exact absurd hlt (BitVec.not_lt.mpr h)
  · exact hnone

/-- Settles O30: where the division answers, quotient and remainder are written. -/
theorem divideForms : Obligations.DivideForms := by
  intro s e w hrep
  refine ⟨fun hlt => ?_, fun hlt => ?_, fun hd hfit => ?_, fun hd hfit => ?_⟩
  · obtain ⟨q, r, hdiv, hq, hr⟩ := divU_some (lo := s.regs.get8 .al) hlt
    obtain ⟨t, ht, honly, hstore, hsys, hkeep, hal, hah⟩ := divide8_some s q r
    rw [get8_ah_append_al] at hq hr
    rw [exec_divEb hrep, hdiv, ht]
    exact ⟨t, rfl, honly, hstore, hsys, hkeep, hal ▸ hq, hah ▸ hr⟩
  · obtain ⟨q, r, hdiv, hq, hr⟩ := divU_some (lo := s.regs.ax) hlt
    obtain ⟨t, ht, honly, hstore, hsys, hkeep, hax, hdx⟩ := divide16_some s q r
    rw [exec_divEv hrep, hdiv, ht]
    exact ⟨t, rfl, honly, hstore, hsys, hkeep, hax ▸ hq, hdx ▸ hr⟩
  · rw [← get8_ah_append_al] at hfit ⊢
    obtain ⟨q, r, hdiv, hq, hr⟩ := divS_some (.inl rfl) hd hfit
    obtain ⟨t, ht, honly, hstore, hsys, hkeep, hal, hah⟩ := divide8_some s q r
    rw [exec_idivEb hrep, hdiv, ht]
    exact ⟨t, rfl, honly, hstore, hsys, hkeep, hal ▸ hq, hah ▸ hr⟩
  · obtain ⟨q, r, hdiv, hq, hr⟩ := divS_some (.inr rfl) hd hfit
    obtain ⟨t, ht, honly, hstore, hsys, hkeep, hax, hdx⟩ := divide16_some s q r
    rw [exec_idivEv hrep, hdiv, ht]
    exact ⟨t, rfl, honly, hstore, hsys, hkeep, hax ▸ hq, hdx ▸ hr⟩

/-- R270, R271: the arithmetic flags are made free and nothing else changes. -/
theorem drawFlags_only (u : State) :
    u.drawFlags = { u with flags := u.drawFlags.flags, draws := u.drawFlags.draws } ∧
      SystemFlagsKept u.flags u.drawFlags.flags :=
  ⟨rfl, rfl, rfl, rfl⟩

/-- R502: the divide error is the entry of vector 0 and then free arithmetic flags. -/
theorem entered_divideError (s : State) :
    ∃ u f n, Entered s u 0 s.ip ∧ SystemFlagsKept u.flags f ∧ s.divideError = { u with flags := f, draws := n } :=
  let ⟨hdraw, hsys⟩ := drawFlags_only (s.service 0#8 s.ip)
  ⟨_, _, _, entered_service s 0 s.ip, hsys, hdraw⟩

/-- Settles O31: in each case the division answers nothing and the instruction is the divide error. -/
theorem divideErrorForms : Obligations.DivideErrorForms := by
  intro s e w i h
  have hexec : exec i s = .next s.divideError := by
    obtain ⟨hrep, ⟨rfl, hle⟩ | ⟨rfl, hle⟩ | ⟨rfl, hbad⟩ | ⟨rfl, hbad⟩⟩ | rfl := h
    · rw [exec_divEb hrep, divU_none hle]
      rfl
    · rw [exec_divEv hrep, divU_none hle]
      rfl
    · rw [← get8_ah_append_al] at hbad
      rw [exec_idivEb hrep, divS_none (.inl rfl) hbad]
      rfl
    · rw [exec_idivEv hrep, divS_none (.inr rfl) hbad]
      rfl
    · rfl
  obtain ⟨u, f, n, hentered, hsys, ht⟩ := entered_divideError s
  exact ⟨_, u, f, n, hexec, hentered, hsys, ht⟩

end Sys2Proof.Machine
end

section
/-! The two-operand forms and the shifts (41_arithmetic.md R251 to R262, 42_logic.md R300 to R313): flags, completion
and frame. -/

namespace Sys2Proof.Machine

open Sys2Proof Sys2Proof.Claims

/-! ## The flags of the eight operations (R254) -/

/-- R253: AF after the carry-in quirk was looked at is the parameter's in the quirk's case, else the computed one. -/
theorem quirkAf_withQuirkAf {n : Nat} {s : State} {a b r : BitVec n} {f : Flags} (haf : f.AF = auxiliary a b r) :
    QuirkAf s a b r (f.withQuirkAf b s.flags.CF s.quirkAf) := by
  have hcase : quirkCase b s.flags.CF = true ↔ b = BitVec.allOnes n ∧ s.flags.CF = true := by
    simp [quirkCase]
  unfold QuirkAf Flags.withQuirkAf
  by_cases hquirk : b = BitVec.allOnes n ∧ s.flags.CF = true
  · rw [if_pos hquirk, if_pos (hcase.mpr hquirk)]
    intro v hv
    rw [State.quirkAf, hv]
    rfl
  · rw [if_neg hquirk, if_neg (mt hcase.mp hquirk)]
    exact haf

/-- R253: the quirk touches AF only. -/
theorem withQuirkAf_eq {n : Nat} (b : BitVec n) (c af : Bool) (f : Flags) :
    f.withQuirkAf b c af = { f with AF := (f.withQuirkAf b c af).AF } := by
  unfold Flags.withQuirkAf
  split <;> rfl

theorem addHolds_withQuirkAf {n : Nat} {a b r : BitVec n} {c : Bool} {f : Flags} (h : AddHolds a b c r f)
    (b' : BitVec n) (c' af : Bool) : AddHolds a b c r (f.withQuirkAf b' c' af) := by
  rw [withQuirkAf_eq]
  exact h

theorem subHolds_withQuirkAf {n : Nat} {a b r : BitVec n} {c : Bool} {f : Flags} (h : SubHolds a b c r f)
    (b' : BitVec n) (c' af : Bool) : SubHolds a b c r (f.withQuirkAf b' c' af) := by
  rw [withQuirkAf_eq]
  exact h

theorem systemFlagsKept_withQuirkAf {n : Nat} {f g : Flags} (h : SystemFlagsKept f g) (b : BitVec n) (c af : Bool) :
    SystemFlagsKept f (g.withQuirkAf b c af) := by
  rw [withQuirkAf_eq]
  exact h

/-- R254: result and flags of each operation. -/
theorem aluHolds_aluFlags {n : Nat} (op : AluOp) (s : State) (a b : BitVec n) (free : Bool) :
    AluHolds op s a b (aluResult op a b s.flags.CF) (aluFlags op a b s.quirkAf free s.flags) ∧
      SystemFlagsKept s.flags (aluFlags op a b s.quirkAf free s.flags) := by
  cases op with
  | add =>
    obtain ⟨hadd, haf, hsys⟩ := addHolds_addFlags a b false s.flags
    exact ⟨⟨hadd, haf⟩, hsys⟩
  | adc =>
    obtain ⟨hadd, haf, hsys⟩ := addHolds_addFlags a b s.flags.CF s.flags
    exact ⟨⟨addHolds_withQuirkAf hadd _ _ _, quirkAf_withQuirkAf haf⟩, systemFlagsKept_withQuirkAf hsys _ _ _⟩
  | sub | cmp =>
    obtain ⟨hsub, haf, hsys⟩ := subHolds_subFlags a b false s.flags
    exact ⟨⟨hsub, haf⟩, hsys⟩
  | sbb =>
    obtain ⟨hsub, haf, hsys⟩ := subHolds_subFlags a b s.flags.CF s.flags
    exact ⟨⟨subHolds_withQuirkAf hsub _ _ _, quirkAf_withQuirkAf haf⟩, systemFlagsKept_withQuirkAf hsys _ _ _⟩
  | and | or | xor =>
    obtain ⟨hlogic, hsys⟩ := logicHolds_logicFlags _ free s.flags
    exact ⟨⟨rfl, hlogic⟩, hsys⟩

/-! ## The forms -/

/-- R254: an operation other than CMP writes its byte result after the flags. -/
theorem State.alu8_eq {op : AluOp} (h : op ≠ .cmp) (s : State) (e : RM Reg8) (b : Byte) :
    s.alu8 op e b = (s.aluSet op (s.rdE8 e) b).wr8 (s.locate e) (aluResult op (s.rdE8 e) b s.flags.CF) := if_neg h

/-- R254: an operation other than CMP writes its word result after the flags. -/
theorem State.alu16_eq {op : AluOp} (h : op ≠ .cmp) (s : State) (e : RM Reg) (b : Word) :
    s.alu16 op e b = (s.aluSet op (s.rdE16 e) b).wr16 (s.locate e) (aluResult op (s.rdE16 e) b s.flags.CF) := if_neg h

/-- R254 for byte operands. -/
theorem aluByteDone_alu8 (op : AluOp) (s : State) (e : RM Reg8) (b : Byte) :
    AluByteDone op s e b (.next (s.alu8 op e b)) := by
  obtain ⟨halu, hsys⟩ := aluHolds_aluFlags op s (s.rdE8 e) b (s.freeBit 0)
  by_cases hcmp : op = .cmp
  · subst hcmp
    exact ⟨_, _, rfl, rfl, hsys, halu, rfl, noStore_of rfl rfl rfl rfl⟩
  · obtain ⟨honly, hputs, hflags, -⟩ := wr8_puts s (aluFlags op (s.rdE8 e) b s.quirkAf (s.freeBit 0) s.flags)
      (s.draws + State.aluDraws op) (s.locate e) (aluResult op (s.rdE8 e) b s.flags.CF)
    rw [← hflags] at halu hsys
    rw [s.alu8_eq hcmp]
    exact ⟨_, aluResult op _ b s.flags.CF, rfl, honly, hsys, halu, by rw [if_neg hcmp]; exact hputs⟩

/-- R254 for word operands. -/
theorem aluWordDone_alu16 (op : AluOp) (s : State) (e : RM Reg) (b : Word) :
    AluWordDone op s e b (.next (s.alu16 op e b)) := by
  obtain ⟨halu, hsys⟩ := aluHolds_aluFlags op s (s.rdE16 e) b (s.freeBit 0)
  by_cases hcmp : op = .cmp
  · subst hcmp
    exact ⟨_, _, rfl, rfl, hsys, halu, rfl, noStore_of rfl rfl rfl rfl⟩
  · obtain ⟨honly, hputs, hflags, -⟩ := wr16_puts s (aluFlags op (s.rdE16 e) b s.quirkAf (s.freeBit 0) s.flags)
      (s.draws + State.aluDraws op) (s.locate e) (aluResult op (s.rdE16 e) b s.flags.CF)
    rw [← hflags] at halu hsys
    rw [s.alu16_eq hcmp]
    exact ⟨_, aluResult op _ b s.flags.CF, rfl, honly, hsys, halu, by rw [if_neg hcmp]; exact hputs⟩

theorem exec_aluEbGb (op : AluOp) (e : RM Reg8) (g : Reg8) (s : State) :
    exec (aluEbGb op e g) s = .next (s.alu8 op e (s.regs.get8 g)) := by cases op <;> rfl

theorem exec_aluGbEb (op : AluOp) (e : RM Reg8) (g : Reg8) (s : State) :
    exec (aluGbEb op g e) s = .next (s.alu8 op (.reg g) (s.rdE8 e)) := by cases op <;> rfl

theorem exec_aluAlIb (op : AluOp) (imm : Byte) (s : State) :
    exec (aluAlIb op imm) s = .next (s.alu8 op (.reg .al) imm) := by cases op <;> rfl

theorem exec_aluEbIb (op : AluOp) (e : RM Reg8) (imm : Byte) (s : State) :
    exec (aluEbIb op e imm) s = .next (s.alu8 op e imm) := by cases op <;> rfl

theorem exec_aluEbIb82 (op : AluOp) (e : RM Reg8) (imm : Byte) (s : State) :
    exec (aluEbIb82 op e imm) s = .next (s.alu8 op e imm) := by cases op <;> rfl

theorem exec_aluEvGv (op : AluOp) (e : RM Reg) (g : Reg) (s : State) :
    exec (aluEvGv op e g) s = .next (s.alu16 op e (s.regs.get g)) := by cases op <;> rfl

theorem exec_aluGvEv (op : AluOp) (e : RM Reg) (g : Reg) (s : State) :
    exec (aluGvEv op g e) s = .next (s.alu16 op (.reg g) (s.rdE16 e)) := by cases op <;> rfl

theorem exec_aluAxIv (op : AluOp) (imm : Word) (s : State) :
    exec (aluAxIv op imm) s = .next (s.alu16 op (.reg .ax) imm) := by cases op <;> rfl

theorem exec_aluEvIv (op : AluOp) (e : RM Reg) (imm : Word) (s : State) :
    exec (aluEvIv op e imm) s = .next (s.alu16 op e imm) := by cases op <;> rfl

theorem exec_aluEvIbSx (op : AluOp) (e : RM Reg) (imm : Byte) (s : State) :
    exec (aluEvIbSx op e imm) s = .next (s.alu16 op e (imm.signExtend 16)) := by cases op <;> rfl

/-- Settles O22: each form runs as the operation on its two bytes. -/
theorem aluByteForms : Obligations.AluByteForms := by
  intro op s e g imm
  rw [exec_aluEbGb, exec_aluGbEb, exec_aluAlIb, exec_aluEbIb, exec_aluEbIb82]
  exact ⟨aluByteDone_alu8 _ _ _ _, aluByteDone_alu8 _ _ _ _, aluByteDone_alu8 _ _ _ _, aluByteDone_alu8 _ _ _ _,
    aluByteDone_alu8 _ _ _ _⟩

/-- Settles O23: each form runs as the operation on its two words. -/
theorem aluWordForms : Obligations.AluWordForms := by
  intro op s e g imm ib
  rw [exec_aluEvGv, exec_aluGvEv, exec_aluAxIv, exec_aluEvIv, exec_aluEvIbSx]
  exact ⟨aluWordDone_alu16 _ _ _ _, aluWordDone_alu16 _ _ _ _, aluWordDone_alu16 _ _ _ _,
    aluWordDone_alu16 _ _ _ _, aluWordDone_alu16 _ _ _ _⟩

/-! ## The carry-in quirk (R253) -/

/-- All ones and a carry make up the modulus: the sum is the operand, with a carry and no overflow. -/
theorem addHolds_allOnes {n : Nat} {a r : BitVec n} {f : Flags} (h : AddHolds a (BitVec.allOnes n) true r f) :
    r = a ∧ f.CF = true ∧ f.OF = false := by
  obtain ⟨hsum, hcf, hof, -⟩ := h
  have hpos := Nat.two_pow_pos n
  have hmodulus : a.toNat + (BitVec.allOnes n).toNat + true.toNat = a.toNat + 2 ^ n := by
    rw [BitVec.toNat_allOnes, Bool.toNat_true]
    omega
  obtain rfl : r = a := BitVec.eq_of_toNat_eq (by
    rw [hsum, hmodulus, Nat.add_mod_right, Nat.mod_eq_of_lt a.isLt])
  rw [hmodulus] at hcf
  refine ⟨rfl, hcf.trans (decide_eq_true (Nat.le_add_left _ _)), hof.trans ?_⟩
  rw [BitVec.xor_self, BitVec.zero_and, BitVec.msb_zero]

/-- All ones and a borrow make up the modulus: the difference is the operand, with a borrow and no overflow. -/
theorem subHolds_allOnes {n : Nat} {a r : BitVec n} {f : Flags} (h : SubHolds a (BitVec.allOnes n) true r f) :
    r = a ∧ f.CF = true ∧ f.OF = false := by
  obtain ⟨hdiff, hcf, hof, -⟩ := h
  have hlt := a.isLt
  have hones : (BitVec.allOnes n).toNat = 2 ^ n - 1 := BitVec.toNat_allOnes
  have hmodulus : (a.toNat : Int) - (BitVec.allOnes n).toNat - true.toNat = a.toNat - (2 ^ n : Nat) := by
    rw [hones, Bool.toNat_true]
    omega
  obtain rfl : r = a := BitVec.eq_of_toNat_eq (by
    rw [hmodulus, Nat.cast_pow, Nat.cast_ofNat, Int.sub_emod_right,
      Int.emod_eq_of_lt (by omega) (by exact_mod_cast hlt)] at hdiff
    exact_mod_cast hdiff)
  refine ⟨rfl, hcf.trans (decide_eq_true ?_), hof.trans ?_⟩
  · rw [hones, Bool.toNat_true]
    omega
  · rw [BitVec.xor_self, BitVec.and_zero, BitVec.msb_zero]

/-- Settles O24: the forms of O22 and O23 with all ones as their source. -/
theorem carryQuirk : Obligations.CarryQuirk := by
  intro s e w hcf
  refine ⟨?_, ?_, ?_, ?_⟩
  · obtain ⟨t, r, hexec, -, -, ⟨hadd, -⟩, hputs⟩ := aluByteDone_alu8 .adc s e 0xFF
    rw [hcf] at hadd
    obtain ⟨rfl, hc, ho⟩ := addHolds_allOnes hadd
    exact ⟨t, hexec, hputs, hc, ho⟩
  · obtain ⟨t, r, hexec, -, -, ⟨hsub, -⟩, hputs⟩ := aluByteDone_alu8 .sbb s e 0xFF
    rw [hcf] at hsub
    obtain ⟨rfl, hc, ho⟩ := subHolds_allOnes hsub
    exact ⟨t, hexec, hputs, hc, ho⟩
  · obtain ⟨t, r, hexec, -, -, ⟨hadd, -⟩, hputs⟩ := aluWordDone_alu16 .adc s w 0xFFFF
    rw [hcf] at hadd
    obtain ⟨rfl, hc, ho⟩ := addHolds_allOnes hadd
    exact ⟨t, hexec, hputs, hc, ho⟩
  · obtain ⟨t, r, hexec, -, -, ⟨hsub, -⟩, hputs⟩ := aluWordDone_alu16 .sbb s w ((0xFF : Byte).signExtend 16)
    rw [hcf] at hsub
    obtain ⟨rfl, hc, ho⟩ := subHolds_allOnes hsub
    exact ⟨t, hexec, hputs, hc, ho⟩

/-! ## Shifts and rotates (R306 to R313) -/

/-- R306: the flags after `count ≠ 0` steps. -/
theorem shiftFlags_holds {n : Nat} (op : ShiftOp) (count : Nat) (x : BitVec n) (p : BitVec n × Bool)
    (freeOf freeAf : Bool) (f : Flags) :
    ShiftFlags op count x p f (shiftFlags op count x p freeOf freeAf f) ∧
      SystemFlagsKept f (shiftFlags op count x p freeOf freeAf f) := by
  have hone : ∀ {a b : Bool}, count = 1 → (if count = 1 then a else b) = a := fun h => if_pos h
  cases op with
  | rol | ror | rcl | rcr =>
    exact ⟨⟨rfl, fun h => hone h, rfl, rfl, rfl, rfl⟩, rfl, rfl, rfl⟩
  | shl | shr | sar =>
    exact ⟨⟨rfl, fun h => hone h, resultFlags_zsp _ _⟩, rfl, rfl, rfl⟩

/-- R306: a shift or rotate of a byte operand. -/
theorem shiftByteDone_shift8 (op : ShiftOp) (s : State) (e : RM Reg8) (count : Nat) :
    ShiftByteDone op s e count (.next (s.shift8 op e count)) := by
  unfold ShiftByteDone State.shift8
  by_cases hcount : count = 0
  · rw [if_pos hcount, if_pos hcount]
  · rw [if_neg hcount, if_neg hcount]
    dsimp only
    rw [(shiftsInClosedForm 8 (.inl rfl) op count (s.rdE8 e) s.flags.CF).1 hcount]
    generalize closedShift op count (s.rdE8 e) s.flags.CF = p
    obtain ⟨hshift, hsys⟩ := shiftFlags_holds op count (s.rdE8 e) p (s.freeBit 0) (s.freeBit 1) s.flags
    obtain ⟨honly, hputs, hflags, -⟩ := wr8_puts s
      (shiftFlags op count (s.rdE8 e) p (s.freeBit 0) (s.freeBit 1) s.flags) (s.draws + 2) (s.locate e) p.1
    rw [← hflags] at hshift hsys
    exact ⟨_, rfl, honly, hsys, hshift, hputs⟩

/-- R306: a shift or rotate of a word operand. -/
theorem shiftWordDone_shift16 (op : ShiftOp) (s : State) (e : RM Reg) (count : Nat) :
    ShiftWordDone op s e count (.next (s.shift16 op e count)) := by
  unfold ShiftWordDone State.shift16
  by_cases hcount : count = 0
  · rw [if_pos hcount, if_pos hcount]
  · rw [if_neg hcount, if_neg hcount]
    dsimp only
    rw [(shiftsInClosedForm 16 (.inr rfl) op count (s.rdE16 e) s.flags.CF).1 hcount]
    generalize closedShift op count (s.rdE16 e) s.flags.CF = p
    obtain ⟨hshift, hsys⟩ := shiftFlags_holds op count (s.rdE16 e) p (s.freeBit 0) (s.freeBit 1) s.flags
    obtain ⟨honly, hputs, hflags, -⟩ := wr16_puts s
      (shiftFlags op count (s.rdE16 e) p (s.freeBit 0) (s.freeBit 1) s.flags) (s.draws + 2) (s.locate e) p.1
    rw [← hflags] at hshift hsys
    exact ⟨_, rfl, honly, hsys, hshift, hputs⟩

theorem exec_shiftEb1 (op : ShiftOp) (e : RM Reg8) (s : State) :
    exec (shiftEb1 op e) s = .next (s.shift8 op e 1) := by cases op <;> rfl

theorem exec_shiftEv1 (op : ShiftOp) (e : RM Reg) (s : State) :
    exec (shiftEv1 op e) s = .next (s.shift16 op e 1) := by cases op <;> rfl

theorem exec_shiftEbCl (op : ShiftOp) (e : RM Reg8) (s : State) :
    exec (shiftEbCl op e) s = .next (s.shift8 op e (s.regs.get8 .cl).toNat) := by cases op <;> rfl

theorem exec_shiftEvCl (op : ShiftOp) (e : RM Reg) (s : State) :
    exec (shiftEvCl op e) s = .next (s.shift16 op e (s.regs.get8 .cl).toNat) := by cases op <;> rfl

/-- Settles O28: each form runs as the shift by its count, whose steps are the closed form of O20. -/
theorem shiftForms : Obligations.ShiftForms := by
  intro op s e w
  rw [exec_shiftEb1, exec_shiftEv1, exec_shiftEbCl, exec_shiftEvCl]
  exact ⟨shiftByteDone_shift8 _ _ _ _, shiftWordDone_shift16 _ _ _ _, shiftByteDone_shift8 _ _ _ _,
    shiftWordDone_shift16 _ _ _ _⟩

end Sys2Proof.Machine
end

section
/-! Data transfer (40_data_transfer.md): segment registers, the stack and the ports. -/

namespace Sys2Proof.Machine

open Sys2Proof Sys2Proof.Claims

/-! ## Segment registers (R205, R206, R211, R220, R221) -/

/-- R206, R211: a load of a segment register sets the suppression flag, and a load of CS empties the queue. -/
theorem State.loadSeg_eq (s : State) (x : SReg) (v : Word) :
    s.loadSeg x v = { s with segs := s.segs.set x v, noint := true, queue := if x = .cs then [] else s.queue } := by
  cases x <;> rfl

/-- R211, 46_undocumented.md R441: a pop of a segment register loads the word at the top of the stack. -/
theorem State.popSeg_eq (s : State) (x : SReg) :
    s.pop16.2.loadSeg x s.pop16.1 =
      { s with
        segs := s.segs.set x (stackWord s 0)
        regs := s.regs.set .sp (s.regs.sp + 2)
        noint := true
        queue := if x = .cs then [] else s.queue } := by
  rw [pop16_word, loadSeg_eq]
  rfl

/-- Settles O35: each load is one write of a segment register. -/
theorem segmentRegisterForms : Obligations.SegmentRegisterForms := by
  intro s w x g m
  refine ⟨⟨_, rfl, wr16_moves s (s.locate w) _⟩, ?_, fun i y hrow => ?_, fun i y hrow => ?_⟩
  · have hexec : exec (.movSregEw x w) s = .next (s.loadSeg x (s.rdE16 w)) := rfl
    rw [s.loadSeg_eq] at hexec
    exact ⟨_, hexec, rfl, segs_of_set rfl⟩
  · have hexec : exec i s = .next (s.pop16.2.loadSeg y s.pop16.1) := by
      simp only [List.mem_cons, Prod.mk.injEq, List.not_mem_nil, or_false] at hrow
      obtain ⟨rfl, rfl⟩ | ⟨rfl, rfl⟩ | ⟨rfl, rfl⟩ | ⟨rfl, rfl⟩ := hrow <;> rfl
    rw [s.popSeg_eq] at hexec
    obtain ⟨hnew, hother⟩ := segs_get_set s.segs y (stackWord s 0)
    exact ⟨_, hexec, rfl, hnew, hother, writesReg_set _ _ _ _ rfl⟩
  · obtain ⟨msg, hloc, hptr⟩ := farPointer_mem s m
    have hexec : exec i s = .next ((s.setReg g (s.readWord msg (effOffset s.regs m))).setSeg y
        (s.readWord msg (effOffset s.regs m + 2))) := by
      simp only [List.mem_cons, Prod.mk.injEq, List.not_mem_nil, or_false] at hrow
      obtain ⟨rfl, rfl⟩ | ⟨rfl, rfl⟩ := hrow
      · show execLdsGvMp g (.mem m) s = _
        rw [execLdsGvMp, hptr]
      · show execLesGvMp g (.mem m) s = _
        rw [execLesGvMp, hptr]
    obtain ⟨hnew, hother⟩ := segs_get_set s.segs y (s.readWord msg (effOffset s.regs m + 2))
    exact ⟨_, msg, hexec, rfl, hloc, writesReg_set _ _ _ _ rfl, hnew, hother⟩

/-! ## Pushes (R207 to R209, R224) -/

/-- R207: PUSH of a register stores its value, PUSH SP the lowered one. -/
theorem State.pushReg_eq (s : State) (r : Reg) :
    s.pushReg r = s.push16 (if r = .sp then s.regs.sp - 2 else s.regs.get r) :=
  (apply_ite s.push16 ..).symm

/-- A push changes data only: SP, memory and the queue. -/
theorem push16_moves (s : State) (v : Word) :
    OnlyData s (s.push16 v) ∧ (s.push16 v).flags = s.flags ∧ (s.push16 v).draws = s.draws ∧
      WritesReg s (s.push16 v) .sp (s.regs.sp - 2) ∧ StoresWords s (s.push16 v) s.segs.ss [(s.regs.sp - 2, v)] ∧
      QueueKept s (s.push16 v) :=
  ⟨onlyData_of (s.push16_only v), s.push16_flags v, s.push16_draws v,
    writesReg_set _ _ _ _ (s.push16_regs v), storesWords_push16 s v, queueKept_push16 s v⟩

/-- Settles O36: each form is one push of its word. -/
theorem pushForms : Obligations.PushForms := by
  intro s r m i v hrow
  have hexec : exec i s = .next (s.push16 v) := by
    simp only [List.mem_cons, Prod.mk.injEq, List.not_mem_nil, or_false] at hrow
    obtain ⟨rfl, rfl⟩ | ⟨rfl, rfl⟩ | hrow := hrow
    · exact congrArg _ (s.pushReg_eq r)
    · exact congrArg _ (s.pushReg_eq r)
    · obtain ⟨rfl, rfl⟩ | ⟨rfl, rfl⟩ | ⟨rfl, rfl⟩ | ⟨rfl, rfl⟩ | ⟨rfl, rfl⟩ | ⟨rfl, rfl⟩ := hrow <;> rfl
  exact ⟨_, hexec, push16_moves s v⟩

/-! ## Pops (R210, R212, R225) -/

/-- Settles O37: a pop of an operand writes it after SP was raised; POPF writes the flags. -/
theorem popForms : Obligations.PopForms := by
  intro s r m
  refine ⟨fun i hi => ?_, ?_, ?_⟩
  · have hexec : exec i s =
        .next { s with regs := (s.regs.set .sp (s.regs.sp + 2)).set r (stackWord s 0) } := by
      rw [← pop16_word]
      simp only [List.mem_cons, List.not_mem_nil, or_false] at hi
      obtain rfl | rfl := hi <;> rfl
    refine ⟨_, hexec, rfl, Regs.get_set_self _ _ _, fun x hx => ?_, fun hr => ?_⟩
    · exact keepsRegsBut_set_set rfl x (by simpa [and_comm] using hx)
    · show ((s.regs.set .sp (s.regs.sp + 2)).set r (stackWord s 0)).get .sp = _
      rw [Regs.get_set, if_neg hr.symm]
      rfl
  · have hexec : exec (.popEv (.mem m)) s = .next (s.pop16.2.wr16 (s.locate (.mem m)) (stackWord s 0)) := by
      rw [← pop16_word]
      rfl
    obtain ⟨honly, hflags, hdraws, hregs, hstores, hqueue⟩ :=
      wr16_moves s.pop16.2 (s.locate (.mem m)) (stackWord s 0)
    exact ⟨_, _, hexec, honly, hflags, hdraws, writesReg_set _ _ _ _ hregs, rfl, hstores, hqueue⟩
  · have hexec : exec .popf s = .next (s.pop16.2.setFlags (Flags.ofImage (stackWord s 0))) := by
      rw [← pop16_word]
      rfl
    exact ⟨_, hexec, rfl, writesReg_set _ _ _ _ rfl, ofImage_image _⟩

/-! ## Ports (R216, R217) -/

/-- Settles O40: each form is one call and, for an input, one register write. -/
theorem portForms : Obligations.PortForms := by
  intro s ib
  refine ⟨fun i p hrow => ?_, fun i p hrow => ?_, rfl, rfl, rfl, rfl⟩
  · have hexec : exec i s = .next (s.inByte p) := by
      simp only [List.mem_cons, Prod.mk.injEq, List.not_mem_nil, or_false] at hrow
      obtain ⟨rfl, rfl⟩ | ⟨rfl, rfl⟩ := hrow <;> rfl
    exact ⟨_, _, hexec, rfl, writesReg8_set rfl⟩
  · have hexec : exec i s = .next (s.inWord p) := by
      simp only [List.mem_cons, Prod.mk.injEq, List.not_mem_nil, or_false] at hrow
      obtain ⟨rfl, rfl⟩ | ⟨rfl, rfl⟩ := hrow <;> rfl
    exact ⟨_, _, hexec, rfl, writesReg_set _ _ _ _ rfl⟩

end Sys2Proof.Machine
end

section
/-! String instructions (43_string.md): one element of each, and the iterations under a REP byte. -/

namespace Sys2Proof.Machine

open Sys2Proof Sys2Proof.Claims

/-! ## Elements (R340, R343 to R347) -/

theorem loByte_zext16 (b : Byte) : loByte (zext16 b) = b := by
  simp [loByte, zext16]

/-- SI after an element (R340). -/
def nextSi (s : State) (w : Width) : Word := s.regs.si + indexStep s (elementSize w)

/-- DI after an element (R340). -/
def nextDi (s : State) (w : Width) : Word := s.regs.di + indexStep s (elementSize w)

/-- R340: `delta` is the index step of the width. -/
theorem State.delta_eq (s : State) (w : Width) : s.delta w = indexStep s (elementSize w) := by
  unfold delta indexStep
  rw [← BitVec.zero_sub]

/-- R340: SI advances in the direction of DF. -/
theorem State.stepSi_eq {s t : State} (w : Width) (hsi : t.regs.si = s.regs.si) (hdf : t.flags.DF = s.flags.DF) :
    t.stepSi w = t.setReg .si (nextSi s w) := by
  rw [stepSi, delta_eq, hsi, indexStep, hdf]
  rfl

/-- R340: DI advances in the direction of DF. -/
theorem State.stepDi_eq {s t : State} (w : Width) (hdi : t.regs.di = s.regs.di) (hdf : t.flags.DF = s.flags.DF) :
    t.stepDi w = t.setReg .di (nextDi s w) := by
  rw [stepDi, delta_eq, hdi, indexStep, hdf]
  rfl

/-- R340: both index registers advance, from their values before the element. -/
theorem State.stepSi_stepDi_eq {s t : State} (w : Width) (hregs : t.regs = s.regs) (hdf : t.flags.DF = s.flags.DF) :
    (t.stepSi w).stepDi w = (t.setReg .si (nextSi s w)).setReg .di (nextDi s w) := by
  have hdi : (t.setReg .si (nextSi s w)).regs.di = s.regs.di := by
    rw [setReg_regs, hregs]
    rfl
  rw [stepSi_eq w (congrArg _ hregs) hdf, stepDi_eq w hdi hdf]

/-- A store of an element leaves the registers and the flags alone. -/
theorem State.writeElement_keeps (s : State) (w : Width) (sg off v : Word) :
    (s.writeElement w sg off v).regs = s.regs ∧ (s.writeElement w sg off v).flags = s.flags := by
  cases w
  · exact ⟨s.writeByte_regs _ _ _, s.writeByte_flags _ _ _⟩
  · exact ⟨s.writeWord_regs _ _ _, s.writeWord_flags _ _ _⟩

/-- R344, R345: a comparison writes the flags only, and not the system flags. -/
theorem State.compare_only (s : State) (w : Width) (a b : Word) :
    s.compare w a b = s.setFlags (s.compare w a b).flags ∧ SystemFlagsKept s.flags (s.compare w a b).flags := by
  cases w <;> exact ⟨rfl, rfl, rfl, rfl⟩

/-- R343: MOVS stores the source element and advances both index registers. -/
theorem State.element_movs (s : State) (w : Width) :
    s.element ⟨.movs, w⟩ =
      { s.writeElement w s.segs.es s.regs.di (s.sourceElement w) with
        regs := (s.regs.set .si (nextSi s w)).set .di (nextDi s w) } := by
  show ((s.writeElement w s.segs.es s.regs.di (s.sourceElement w)).stepSi w).stepDi w = _
  obtain ⟨hregs, hflags⟩ := s.writeElement_keeps w s.segs.es s.regs.di (s.sourceElement w)
  rw [stepSi_stepDi_eq w hregs (congrArg _ hflags), setReg, setReg_regs, hregs]
  rfl

/-- R347: STOS stores the accumulator and advances DI. -/
theorem State.element_stos (s : State) (w : Width) :
    s.element ⟨.stos, w⟩ =
      { s.writeElement w s.segs.es s.regs.di s.regs.ax with regs := s.regs.set .di (nextDi s w) } := by
  show (s.writeElement w s.segs.es s.regs.di s.regs.ax).stepDi w = _
  obtain ⟨hregs, hflags⟩ := s.writeElement_keeps w s.segs.es s.regs.di s.regs.ax
  rw [stepDi_eq (s := s) w (congrArg _ hregs) (congrArg _ hflags), setReg, hregs]

/-- R346: LODS loads the accumulator and advances SI. -/
theorem State.element_lods (s : State) (w : Width) :
    s.element ⟨.lods, w⟩ = (s.setAccumulator w (s.sourceElement w)).setReg .si (nextSi s w) := by
  show (s.setAccumulator w (s.sourceElement w)).stepSi w = _
  cases w
  · exact stepSi_eq .byte rfl rfl
  · exact stepSi_eq .word rfl rfl

/-- R344: CMPS sets the flags and advances both index registers. -/
theorem State.element_cmps (s : State) (w : Width) :
    s.element ⟨.cmps, w⟩ =
      { s with
        flags := (s.compare w (s.sourceElement w) (s.destElement w)).flags
        regs := (s.regs.set .si (nextSi s w)).set .di (nextDi s w) } := by
  show ((s.compare w (s.sourceElement w) (s.destElement w)).stepSi w).stepDi w = _
  obtain ⟨hflags, -, -, hdf⟩ := s.compare_only w (s.sourceElement w) (s.destElement w)
  have hregs : (s.compare w (s.sourceElement w) (s.destElement w)).regs = s.regs := by rw [hflags, setFlags_regs]
  rw [stepSi_stepDi_eq w hregs hdf, setReg, setReg_regs, hregs, hflags]
  rfl

/-- R345: SCAS sets the flags and advances DI. -/
theorem State.element_scas (s : State) (w : Width) :
    s.element ⟨.scas, w⟩ =
      { s with
        flags := (s.compare w s.regs.ax (s.destElement w)).flags
        regs := s.regs.set .di (nextDi s w) } := by
  show (s.compare w s.regs.ax (s.destElement w)).stepDi w = _
  obtain ⟨hflags, -, -, hdf⟩ := s.compare_only w s.regs.ax (s.destElement w)
  have hregs : (s.compare w s.regs.ax (s.destElement w)).regs = s.regs := by rw [hflags, setFlags_regs]
  rw [stepDi_eq (s := s) w (congrArg _ hregs) hdf, setReg, hregs, hflags]
  rfl

/-- Without a REP byte a string opcode is one element (R340). -/
theorem exec_stringInstr_noRep {s : State} (h : s.rep = none) (x : StrInsn) :
    exec (stringInstr x) s = .next (s.element x) := by
  rw [exec_stringInstr, stringInsn_noRep s x h]

/-- A change of the registers is a change of data only. -/
theorem onlyData_withRegs {s t : State} (h : OnlyData s t) (r : Regs) : OnlyData s { t with regs := r } := by
  have ht : t = _ := h
  rw [ht]
  rfl

/-- A byte stored and the registers changed. -/
theorem writeByte_withRegs (s : State) (sg off : Word) (v : Byte) (r : Regs) :
    ∃ t, { s.writeByte sg off v with regs := r } = t ∧ t.regs = r ∧ OnlyData s t ∧ t.flags = s.flags ∧
      t.draws = s.draws ∧ StoresByte s t sg off v ∧ QueueKept s t := by
  obtain ⟨honly, hflags, hdraws, -, hstores, hqueue⟩ := wr8_moves s (.mem sg off) v
  exact ⟨_, rfl, rfl, onlyData_withRegs honly r, hflags, hdraws, hstores, hqueue⟩

/-- A word stored and the registers changed. -/
theorem writeWord_withRegs (s : State) (sg off v : Word) (r : Regs) :
    ∃ t, { s.writeWord sg off v with regs := r } = t ∧ t.regs = r ∧ OnlyData s t ∧ t.flags = s.flags ∧
      t.draws = s.draws ∧ StoresWords s t sg [(off, v)] ∧ QueueKept s t := by
  obtain ⟨honly, hflags, hdraws, -, hstores, hqueue⟩ := wr16_moves s (.mem sg off) v
  exact ⟨_, rfl, rfl, onlyData_withRegs honly r, hflags, hdraws, hstores, hqueue⟩

/-- The source element of a byte operation. -/
theorem loByte_sourceElement (s : State) :
    loByte (s.sourceElement .byte) = s.readByte (s.segs.get (s.ovr.getD .ds)) s.regs.si := loByte_zext16 _

/-- The destination element of a byte operation. -/
theorem loByte_destElement (s : State) : loByte (s.destElement .byte) = s.readByte s.segs.es s.regs.di :=
  loByte_zext16 _

/-- Settles O42: MOVS and STOS are a store with the registers changed, LODS writes the registers only. -/
theorem stringMoveElements : Obligations.StringMoveElements := by
  intro s hrep
  have hexec := exec_stringInstr_noRep hrep
  refine ⟨_, rfl, ?_, ?_, ?_, ?_, ?_, ?_⟩
  · have hrun := hexec ⟨.movs, .byte⟩
    rw [s.element_movs] at hrun
    obtain ⟨t, ht, hregs, honly, hflags, hdraws, hstores, hqueue⟩ := writeByte_withRegs s s.segs.es s.regs.di
      (loByte (s.sourceElement .byte)) ((s.regs.set .si (nextSi s .byte)).set .di (nextDi s .byte))
    rw [loByte_sourceElement] at hstores
    exact ⟨t, hrun.trans (congrArg _ ht), honly, hflags, hdraws, hstores, hqueue, keepsRegsBut_set_set hregs,
      congrArg Regs.si hregs, congrArg Regs.di hregs⟩
  · have hrun := hexec ⟨.movs, .word⟩
    rw [s.element_movs] at hrun
    obtain ⟨t, ht, hregs, honly, hflags, hdraws, hstores, hqueue⟩ := writeWord_withRegs s s.segs.es s.regs.di
      (s.sourceElement .word) ((s.regs.set .si (nextSi s .word)).set .di (nextDi s .word))
    exact ⟨t, hrun.trans (congrArg _ ht), honly, hflags, hdraws, hstores, hqueue, keepsRegsBut_set_set hregs,
      congrArg Regs.si hregs, congrArg Regs.di hregs⟩
  · have hrun := hexec ⟨.stos, .byte⟩
    rw [s.element_stos] at hrun
    obtain ⟨t, ht, hregs, honly, hflags, hdraws, hstores, hqueue⟩ := writeByte_withRegs s s.segs.es s.regs.di
      (loByte s.regs.ax) (s.regs.set .di (nextDi s .byte))
    exact ⟨t, hrun.trans (congrArg _ ht), honly, hflags, hdraws, hstores, hqueue, writesReg_set _ _ _ _ hregs⟩
  · have hrun := hexec ⟨.stos, .word⟩
    rw [s.element_stos] at hrun
    obtain ⟨t, ht, hregs, honly, hflags, hdraws, hstores, hqueue⟩ := writeWord_withRegs s s.segs.es s.regs.di
      s.regs.ax (s.regs.set .di (nextDi s .word))
    exact ⟨t, hrun.trans (congrArg _ ht), honly, hflags, hdraws, hstores, hqueue, writesReg_set _ _ _ _ hregs⟩
  · have hrun := hexec ⟨.lods, .byte⟩
    rw [s.element_lods] at hrun
    have hal : loByte (mkWord (hiByte s.regs.ax) (loByte (s.sourceElement .byte))) = _ :=
      (loByte_mkWord _ _).trans (loByte_sourceElement s)
    refine ⟨_, hrun, rfl, hal, hiByte_mkWord _ _, ?_, rfl⟩
    exact keepsRegsBut_set_set (v := mkWord (hiByte s.regs.ax) (loByte (s.sourceElement .byte))) rfl
  · have hrun := hexec ⟨.lods, .word⟩
    rw [s.element_lods] at hrun
    exact ⟨_, hrun, rfl, rfl, keepsRegsBut_set_set rfl, rfl⟩

/-- Settles O43: the comparisons set the flags of R252 and advance the index registers. -/
theorem stringCompareElements : Obligations.StringCompareElements := by
  intro s hrep
  have hexec := exec_stringInstr_noRep hrep
  refine ⟨_, rfl, fun i a moved hrow => ?_, fun i a moved hrow => ?_⟩
  · simp only [List.mem_cons, Prod.mk.injEq, List.not_mem_nil, or_false] at hrow
    obtain ⟨hsub, haf, hsys⟩ := subHolds_subFlags a (s.readByte s.segs.es s.regs.di) false s.flags
    obtain ⟨rfl, rfl, rfl⟩ | ⟨rfl, rfl, rfl⟩ := hrow
    · have hrun := hexec ⟨.cmps, .byte⟩
      rw [s.element_cmps, State.compare, loByte_sourceElement, loByte_destElement] at hrun
      refine ⟨_, _, hrun, rfl, hsys, hsub, haf, keepsRegsBut_set_set rfl, ?_⟩
      simp only [List.forall_mem_cons, List.not_mem_nil, false_imp_iff, implies_true, and_true]
      exact ⟨rfl, rfl⟩
    · have hrun := hexec ⟨.scas, .byte⟩
      rw [s.element_scas, State.compare, loByte_destElement] at hrun
      refine ⟨_, _, hrun, rfl, hsys, hsub, haf, keepsRegsBut_set rfl, ?_⟩
      simp only [List.forall_mem_cons, List.not_mem_nil, false_imp_iff, implies_true, and_true]
      rfl
  · simp only [List.mem_cons, Prod.mk.injEq, List.not_mem_nil, or_false] at hrow
    obtain ⟨hsub, haf, hsys⟩ := subHolds_subFlags a (s.readWord s.segs.es s.regs.di) false s.flags
    obtain ⟨rfl, rfl, rfl⟩ | ⟨rfl, rfl, rfl⟩ := hrow
    · have hrun := hexec ⟨.cmps, .word⟩
      rw [s.element_cmps] at hrun
      refine ⟨_, _, hrun, rfl, hsys, hsub, haf, keepsRegsBut_set_set rfl, ?_⟩
      simp only [List.forall_mem_cons, List.not_mem_nil, false_imp_iff, implies_true, and_true]
      exact ⟨rfl, rfl⟩
    · have hrun := hexec ⟨.scas, .word⟩
      rw [s.element_scas] at hrun
      refine ⟨_, _, hrun, rfl, hsys, hsub, haf, keepsRegsBut_set rfl, ?_⟩
      simp only [List.forall_mem_cons, List.not_mem_nil, false_imp_iff, implies_true, and_true]
      rfl

/-! ## Iterations under a REP byte (R341, R342) -/

/-- R342: what ends a repeat after an element. -/
theorem comparisonEnds_or_eq {s : State} {k : RepKind} (hrep : s.rep = some k) (x : StrInsn) :
    (s.comparisonEnds x || s.regs.cx == 0#16) = repEnds x k s := by
  obtain ⟨op, w⟩ := x
  rw [Bool.or_comm]
  cases op <;> cases k <;> simp [State.comparisonEnds, repEnds, hrep, RepKind.terminates]

/-- R341: an iteration that neither finds CX = 0 nor is interrupted lowers CX, does one element and says whether the
instruction goes on. -/
theorem repIteration_eq {s : State} {x : StrInsn} {k : RepKind} (hrep : s.rep = some k) (hcx : s.regs.cx ≠ 0#16)
    (hevent : (s.repeating.isSome && s.interruptPending) = false) :
    s.repIteration x =
      { (elementStart s).element x with
        rep := some k
        repeating := if repEnds x k ((elementStart s).element x) then none else some x } := by
  have helement : (s.setReg .cx (s.regs.cx - 1#16)).element x =
      withRep ((elementStart s).element x) (some k) s.repeating := by
    rw [← element_withRep, ← hrep]
    rfl
  have hrun : s.repIteration x =
      if ((s.setReg .cx (s.regs.cx - 1#16)).element x).comparisonEnds x ||
          ((s.setReg .cx (s.regs.cx - 1#16)).element x).regs.cx == 0#16 then
        { (s.setReg .cx (s.regs.cx - 1#16)).element x with repeating := none }
      else { (s.setReg .cx (s.regs.cx - 1#16)).element x with repeating := some x } := by
    rw [State.repIteration, if_neg hcx, hevent]
    rfl
  rw [hrun, helement, comparisonEnds_or_eq rfl]
  show (if repEnds x k ((elementStart s).element x) then _ else _) = _
  split <;> rfl

/-- Settles O44. -/
theorem repFirstIteration : Obligations.RepFirstIteration := by
  intro s x k hrep hrepeating
  have hexec : exec (stringInstr x) s = .next (s.repIteration x) := by
    rw [exec_stringInstr, State.stringInsn, hrep]
  rw [hexec]
  constructor
  · intro hcx
    rw [State.repIteration, if_pos (show s.regs.cx = 0#16 from hcx), ← hrepeating]
  · intro hcx
    rw [repIteration_eq hrep hcx (by rw [hrepeating]; rfl)]
    exact ⟨_, exec_stringInstr_noRep rfl x, rfl⟩

/-- R341: the check of events is the one of the statements. -/
theorem interruptPending_eq (s : State) : s.interruptPending = eventPending s := by
  unfold State.interruptPending eventPending State.ctrlQuery
  cases s.ctrl <;> rfl

/-- R341: a step of a repeating machine is a fill point, an iteration and its end. -/
theorem step_repeating {s : State} {x : StrInsn} (hhalted : s.halted = false) (hrepeating : s.repeating = some x) :
    step s = .next (s.fill.repIteration x).finish := by
  rw [step, hhalted, hrepeating]
  rfl

/-- R341: without an event pending, a step of a repeating machine is a fill point and one more element. -/
theorem step_repeating_quiet {s : State} {x : StrInsn} {k : RepKind} (hhalted : s.halted = false)
    (hrepeating : s.repeating = some x) (hrep : s.rep = some k) (hcx : s.regs.cx ≠ 0#16)
    (hquiet : eventPending s = false) :
    step s = ended (.next { (elementStart s.fill).element x with
      rep := some k
      repeating := if repEnds x k ((elementStart s.fill).element x) then none else some x }) := by
  have hevent : (s.fill.repeating.isSome && s.fill.interruptPending) = false := by
    have hpending : s.fill.interruptPending = eventPending s := interruptPending_eq s
    rw [hpending, hquiet, Bool.and_false]
  rw [step_repeating hhalted hrepeating, finish_ended,
    repIteration_eq (s.fill_rep.trans hrep) (by rwa [s.fill_regs]) hevent]

/-- R341: an event pending ends the instruction before its next element. -/
theorem step_repeating_interrupted {s : State} {x : StrInsn} (hhalted : s.halted = false)
    (hrepeating : s.repeating = some x) (hcx : s.regs.cx ≠ 0#16) (hevent : eventPending s = true) :
    step s = .next (State.endInstr { s.fill with ip := s.resumeIp, queue := [], repeating := none }) := by
  have hpending : s.fill.interruptPending = true := (interruptPending_eq s).trans hevent
  rw [step_repeating hhalted hrepeating, State.repIteration, if_neg (by rwa [s.fill_regs]), s.fill_repeating,
    hrepeating, hpending]
  rfl

/-- Settles O45. -/
theorem repLaterIteration : Obligations.RepLaterIteration := by
  intro s x k hhalted hrepeating hrep hcx
  refine ⟨s.fill, filled_fill s, fun hevent => ?_, fun hquiet => ?_⟩
  · rw [step_repeating_interrupted hhalted hrepeating hcx hevent]
    rfl
  · exact ⟨_, exec_stringInstr_noRep rfl x, step_repeating_quiet hhalted hrepeating hrep hcx hquiet⟩

/-! ## A repeat that runs out its count (R341, R342) -/

/-- A store of an element changes data only. -/
theorem onlyData_writeElement (s : State) (w : Width) (sg off v : Word) :
    OnlyData s (s.writeElement w sg off v) := by
  cases w with
  | byte => exact (wr8_moves s (.mem sg off) (loByte v)).1
  | word => exact (wr16_moves s (.mem sg off) v).1

/-- One element changes data only, and not the system flags. -/
theorem onlyData_element (s : State) (x : StrInsn) :
    OnlyData s (s.element x) ∧ SystemFlagsKept s.flags (s.element x).flags := by
  obtain ⟨op, w⟩ := x
  cases op with
  | movs =>
    rw [s.element_movs]
    refine ⟨onlyData_withRegs (onlyData_writeElement s w _ _ _) _, ?_⟩
    rw [(s.writeElement_keeps w _ _ _).2]
    exact ⟨rfl, rfl, rfl⟩
  | cmps =>
    rw [s.element_cmps]
    exact ⟨rfl, (s.compare_only _ _ _).2⟩
  | stos =>
    rw [s.element_stos]
    refine ⟨onlyData_withRegs (onlyData_writeElement s w _ _ _) _, ?_⟩
    rw [(s.writeElement_keeps w _ _ _).2]
    exact ⟨rfl, rfl, rfl⟩
  | lods =>
    rw [s.element_lods]
    cases w <;> exact ⟨rfl, rfl, rfl, rfl⟩
  | scas =>
    rw [s.element_scas]
    exact ⟨rfl, (s.compare_only _ _ _).2⟩

/-- One element leaves CX alone. -/
theorem element_cx (s : State) (x : StrInsn) : (s.element x).regs.cx = s.regs.cx := by
  obtain ⟨op, w⟩ := x
  cases op with
  | movs => rw [s.element_movs]; rfl
  | cmps => rw [s.element_cmps]; rfl
  | stos => rw [s.element_stos]; rfl
  | lods => rw [s.element_lods]; cases w <;> rfl
  | scas => rw [s.element_scas]; rfl

/-- A repeating state of a string operation that nothing disturbs. -/
structure Undisturbed (x : StrInsn) (k : RepKind) (s : State) : Prop where
  halted : s.halted = false
  repeating : s.repeating = some x
  rep : s.rep = some k
  trap : s.trapPending = false
  nmi : s.nmiPending = false
  masked : s.flags.IF = false

/-- MOVS, STOS and LODS repeat on CX alone (R342). -/
theorem repEnds_of_move {x : StrInsn} (hop : x.op ∈ [StrOp.movs, .stos, .lods]) (k : RepKind) (s : State) :
    repEnds x k s = (s.regs.cx == 0#16) := by
  obtain ⟨op, w⟩ := x
  simp only [List.mem_cons, List.not_mem_nil, or_false] at hop
  obtain rfl | rfl | rfl := hop <;> exact Bool.or_false _

/-- R341: an undisturbed step of MOVS, STOS or LODS lowers CX; it goes on while CX is not 0, and then ends. -/
theorem step_undisturbed {s : State} {x : StrInsn} {k : RepKind} (hop : x.op ∈ [StrOp.movs, .stos, .lods])
    (h : Undisturbed x k s) (hcx : s.regs.cx ≠ 0#16) :
    ∃ t, step s = .next t ∧ t.regs.cx = s.regs.cx - 1 ∧ t.ip = s.ip ∧ t.segs = s.segs ∧
      (s.regs.cx - 1 ≠ 0 → Undisturbed x k t) ∧ (s.regs.cx - 1 = 0 → t.repeating = none) := by
  have hquiet : eventPending s = false := by
    rw [eventPending, h.trap, h.nmi, h.masked]
    rfl
  obtain ⟨honly, -, hif, -⟩ := onlyData_element (elementStart s.fill) x
  have hcount : ((elementStart s.fill).element x).regs.cx = s.regs.cx - 1 := by
    rw [element_cx]
    exact congrArg (fun r : Regs => r.cx - 1) s.fill_regs
  have hstep := step_repeating_quiet h.halted h.repeating h.rep hcx hquiet
  rw [repEnds_of_move hop, hcount] at hstep
  generalize (elementStart s.fill).element x = v at honly hif hcount hstep
  have hip : v.ip = s.ip := (congrArg State.ip honly).trans s.fill_ip
  have hsegs : v.segs = s.segs := (congrArg State.segs honly).trans s.fill_segs
  have hhalted : v.halted = false := (congrArg State.halted honly).trans (s.fill_halted.trans h.halted)
  have htrap : v.trapPending = false := (congrArg State.trapPending honly).trans (s.fill_trapPending.trans h.trap)
  have hnmi : v.nmiPending = false := (congrArg State.nmiPending honly).trans (s.fill_nmiPending.trans h.nmi)
  have hmasked : v.flags.IF = false := hif.trans ((congrArg Flags.IF s.fill_flags).trans h.masked)
  by_cases hlast : s.regs.cx - 1 = 0#16
  · rw [hlast] at hstep
    refine ⟨_, hstep.trans (congrArg _ (endInstr_quiet _ htrap hnmi hmasked)), hcount, hip, hsegs,
      fun hmore => absurd hlast hmore, fun _ => rfl⟩
  · rw [beq_eq_false_iff_ne.mpr hlast] at hstep
    exact ⟨_, hstep, hcount, hip, hsegs, fun _ => ⟨hhalted, rfl, rfl, htrap, hnmi, hmasked⟩,
      fun hzero => absurd hzero hlast⟩

/-- R341, R342: undisturbed, MOVS, STOS or LODS ends after as many steps as CX says. -/
theorem run_undisturbed {x : StrInsn} {k : RepKind} (hop : x.op ∈ [StrOp.movs, .stos, .lods]) (n : Nat) :
    ∀ s : State, Undisturbed x k s → s.regs.cx.toNat = n + 1 →
      ∃ t, Host.Core.run core (n + 1) s = .next t ∧ t.regs.cx = 0 ∧ t.repeating = none ∧ t.ip = s.ip ∧
        t.segs = s.segs := by
  induction n with
  | zero =>
    intro s h hcount
    have hone : s.regs.cx = 1#16 := BitVec.eq_of_toNat_eq hcount
    obtain ⟨t, hstep, hcx, hip, hsegs, -, hend⟩ := step_undisturbed hop h (by rw [hone]; decide)
    have hzero : s.regs.cx - 1 = 0 := by
      rw [hone]
      rfl
    exact ⟨t, (run_succ core 0 s t hstep).trans rfl, hcx.trans hzero, hend hzero, hip, hsegs⟩
  | succ n ih =>
    intro s h hcount
    have hlower : (s.regs.cx - 1).toNat = n + 1 := by
      bv_omega
    have hmore : s.regs.cx - 1 ≠ 0 := by
      intro hzero
      rw [hzero] at hlower
      simp at hlower
    obtain ⟨u, hstep, hcx, hip, hsegs, hgoes, -⟩ := step_undisturbed hop h (by bv_omega)
    obtain ⟨t, hrun, hcx', hend, hip', hsegs'⟩ := ih u (hgoes hmore) (by rw [hcx, hlower])
    exact ⟨t, (run_succ core (n + 1) s u hstep).trans hrun, hcx', hend, hip'.trans hip, hsegs'.trans hsegs⟩

/-- Settles O46: by induction on CX (`run_undisturbed`). -/
theorem repRunsOutCount : Obligations.RepRunsOutCount := by
  intro s x k hop hhalted hrepeating hrep hcx htrap hnmi hmasked
  have hpos : s.regs.cx.toNat ≠ 0 := fun hzero => hcx (BitVec.eq_of_toNat_eq hzero)
  obtain ⟨n, hn⟩ := Nat.exists_eq_succ_of_ne_zero hpos
  rw [hn]
  exact run_undisturbed hop n s ⟨hhalted, hrepeating, hrep, htrap, hnmi, hmasked⟩ hn

end Sys2Proof.Machine
end

section
/-! Exceptions (60_exceptions.md): the software interrupts, IRET, INTERRUPT-CHECK, the end of an instruction and the
halted step. -/

namespace Sys2Proof.Machine

open Sys2Proof Sys2Proof.Claims

/-! ## Entry and return (R511 to R516, 44_control.md R405 to R408) -/

/-- Settles O51. -/
theorem softwareInterrupts : Obligations.SoftwareInterrupts := by
  intro s v
  refine ⟨⟨_, rfl, entered_service s v s.ip⟩, ⟨_, rfl, entered_service s 3 s.ip⟩, fun hof => ?_, fun hof => ?_⟩
  · refine ⟨_, ?_, entered_service s 4 s.ip⟩
    show execInto s = _
    rw [execInto, if_pos hof]
    rfl
  · show execInto s = _
    rw [execInto, hof]
    rfl

/-- 44_control.md R408: ip, CS and the flags are the three words at the top of the stack. -/
theorem State.returnFromInterrupt_eq (s : State) :
    s.returnFromInterrupt =
      { s with
        regs := s.regs.set .sp (s.regs.sp + 6)
        segs := { s.segs with cs := stackWord s 2 }
        ip := stackWord s 0
        flags := Flags.ofImage (stackWord s 4)
        queue := [] } := by
  have hcs : stackWord s.pop16.2 0 = stackWord s 2 := stackWord_add s 2 0
  have hflags : stackWord s.pop16.2.pop16.2 0 = stackWord s 4 :=
    (stackWord_add s.pop16.2 2 0).trans (stackWord_add s 2 2)
  have hsp : s.regs.sp + 6 = s.regs.sp + 2 + 2 + 2 := by bv_omega
  rw [returnFromInterrupt, pop16_word, pop16_word, pop16_word, hcs, hflags, hsp]
  rfl

/-- Settles O52. -/
theorem interruptReturn : Obligations.InterruptReturn := by
  intro s
  have hexec : exec .iret s = .next s.returnFromInterrupt := rfl
  rw [s.returnFromInterrupt_eq] at hexec
  exact ⟨_, hexec, rfl, writesReg_set _ _ _ _ rfl, ofImage_image _⟩

/-- A word among those stored is read back where both its bytes are mapped. -/
theorem readWord_of_storedByte {s t : State} {sg off v : Word} {ws : List (Word × Word)} (h : StoresWords s t sg ws)
    (hlo : isUnmapped s.cfg (phys sg off).toNat = false)
    (hhi : isUnmapped s.cfg (phys sg (off + 1#16)).toNat = false)
    (hlow : storedByte sg (phys sg off) ws = some (loByte v))
    (hhigh : storedByte sg (phys sg (off + 1#16)) ws = some (hiByte v)) : t.readWord sg off = v := by
  rw [State.readWord, h.1, h.1, hlo, hhi, hlow, hhigh]
  exact mkWord_hi_lo v

/-- The bytes of three words stored one above the other. -/
theorem storedByte_three (sg x v0 v2 v4 : Word) :
    (∀ k v, (k, v) ∈ [((0 : Word), v0), (2, v2), (4, v4)] →
      storedByte sg (phys sg (x + k)) [(x, v0), (x + 2, v2), (x + 4, v4)] = some (loByte v) ∧
      storedByte sg (phys sg (x + k + 1#16)) [(x, v0), (x + 2, v2), (x + 4, v4)] = some (hiByte v)) := by
  intro k v hrow
  simp only [List.mem_cons, Prod.mk.injEq, List.not_mem_nil, or_false] at hrow
  obtain ⟨rfl, rfl⟩ | ⟨rfl, rfl⟩ | ⟨rfl, rfl⟩ := hrow <;>
    simp [storedByte, phys_inj, BitVec.add_assoc, loByte_eq, hiByte_eq]

/-- Registers that agree one by one are equal. -/
theorem Regs.ext_get {a b : Regs} (h : ∀ r, a.get r = b.get r) : a = b := by
  obtain ⟨ax, cx, dx, bx, sp, bp, si, di⟩ := a
  obtain rfl : ax = _ := h .ax
  obtain rfl : cx = _ := h .cx
  obtain rfl : dx = _ := h .dx
  obtain rfl : bx = _ := h .bx
  obtain rfl : sp = _ := h .sp
  obtain rfl : bp = _ := h .bp
  obtain rfl : si = _ := h .si
  obtain rfl : di = _ := h .di
  rfl

/-- A write of one register, said register by register. -/
theorem regs_eq_set {s t : State} {r : Reg} {v : Word} (h : WritesReg s t r v) : t.regs = s.regs.set r v := by
  obtain ⟨hnew, hother⟩ := h
  refine Regs.ext_get fun x => ?_
  rw [Regs.get_set]
  split
  · next hx => rw [hx, hnew]
  · next hx => exact hother x hx

/-- R512: after an entry on mapped stack bytes the return offset, CS and the flags image are on the stack. -/
theorem stackWord_of_entered {s t : State} {v : Byte} {ret : Word} (h : Entered s t v ret)
    (hmapped : ∀ k : Nat, k < 6 →
      isUnmapped s.cfg (phys s.segs.ss (s.regs.sp - 6 + BitVec.ofNat 16 k)).toNat = false) :
    stackWord t 0 = ret ∧ stackWord t 2 = s.segs.cs ∧ stackWord t 4 = s.flags.image := by
  obtain ⟨-, hregs, hsegs, -, -, hstores, -⟩ := h
  have hsp : t.regs.sp = s.regs.sp - 6 := hregs.1
  have hss : t.segs.ss = s.segs.ss := by rw [hsegs]
  have h4 : s.regs.sp - 4#16 = s.regs.sp - 6 + 2 := by bv_omega
  have h2 : s.regs.sp - 2#16 = s.regs.sp - 6 + 4 := by bv_omega
  rw [h4, h2] at hstores
  have hread : ∀ k w, (k, w) ∈ [((0 : Word), ret), (2, s.segs.cs), (4, s.flags.image)] →
      isUnmapped s.cfg (phys s.segs.ss (s.regs.sp - 6 + k)).toNat = false →
      isUnmapped s.cfg (phys s.segs.ss (s.regs.sp - 6 + k + 1#16)).toNat = false → stackWord t k = w := by
    intro k w hrow hlo hhi
    obtain ⟨hlow, hhigh⟩ := storedByte_three s.segs.ss (s.regs.sp - 6) ret s.segs.cs s.flags.image k w hrow
    rw [stackWord, hss, hsp]
    exact readWord_of_storedByte hstores hlo hhi hlow hhigh
  have hnext : ∀ k : Word, s.regs.sp - 6 + k + 1#16 = s.regs.sp - 6 + (k + 1#16) := fun k => BitVec.add_assoc _ _ _
  refine ⟨hread 0 _ (by simp) (hmapped 0 (by decide)) ?_, hread 2 _ (by simp) (hmapped 2 (by decide)) ?_,
    hread 4 _ (by simp) (hmapped 4 (by decide)) ?_⟩
  · rw [hnext]
    exact hmapped 1 (by decide)
  · rw [hnext]
    exact hmapped 3 (by decide)
  · rw [hnext]
    exact hmapped 5 (by decide)

/-- SP lowered and raised again by 6 is SP. -/
theorem Regs.set_sp_sub_add_six (r : Regs) :
    (r.set .sp (r.sp - 6#16)).set .sp ((r.set .sp (r.sp - 6#16)).sp + 6) = r := by
  show { r with sp := r.sp - 6#16 + 6#16 } = r
  rw [BitVec.sub_add_cancel]

/-- Settles O53: IRET pops the three words that the entry pushed. -/
theorem entryThenReturn : Obligations.EntryThenReturn := by
  intro s v ret hmapped
  have hentered := entered_service s v ret
  obtain ⟨hret, hcs, himage⟩ := stackWord_of_entered hentered hmapped
  obtain ⟨-, hregs, hsegs, -⟩ := hentered
  have hexec : exec .iret (s.service v ret) = .next (s.service v ret).returnFromInterrupt := rfl
  rw [State.returnFromInterrupt_eq, hret, hcs, himage, image_ofImage, hsegs, regs_eq_set hregs,
    Regs.set_sp_sub_add_six] at hexec
  exact ⟨_, hexec, rfl, rfl, rfl, rfl, rfl⟩

/-! ## INTERRUPT-CHECK (R508) -/

section InterruptCheck

variable {s : State}

theorem interruptCheck_noint (h : s.noint = true) : s.interruptCheck = { s with noint := false } := by
  simp only [State.interruptCheck, h, if_true]

theorem interruptCheck_trap (hnoint : s.noint = false) (h : s.trapPending = true) :
    s.interruptCheck = s.service 1#8 s.ip := by
  simp only [State.interruptCheck, hnoint, h, Bool.false_eq_true, if_false, if_true]

theorem interruptCheck_nmi (hnoint : s.noint = false) (htrap : s.trapPending = false)
    (h : (s.nmiPending && s.nmiEnable) = true) :
    s.interruptCheck = State.service { s with nmiPending := false } 2#8 s.ip := by
  simp only [State.interruptCheck, hnoint, htrap, h, Bool.false_eq_true, if_false, if_true]

theorem interruptCheck_ctrl (hnoint : s.noint = false) (htrap : s.trapPending = false)
    (hnmi : (s.nmiPending && s.nmiEnable) = false) (hif : s.flags.IF = true) {v : Byte} {vs : List Byte}
    (h : s.ctrl = v :: vs) :
    s.interruptCheck = State.service { s with ctrl := vs, acked := v :: s.acked } v s.ip := by
  simp only [State.interruptCheck, hnoint, htrap, hnmi, hif, State.ctrlQuery, State.ctrlAck, h, Bool.false_eq_true,
    if_false, if_true, List.head?_cons, List.tail_cons]

theorem interruptCheck_nothing (hnoint : s.noint = false) (htrap : s.trapPending = false)
    (hnmi : (s.nmiPending && s.nmiEnable) = false) (h : s.flags.IF = false ∨ s.ctrl = []) :
    s.interruptCheck = s := by
  obtain hif | hctrl := h
  · simp only [State.interruptCheck, hnoint, htrap, hnmi, hif, Bool.false_eq_true, if_false]
  · simp only [State.interruptCheck, hnoint, htrap, hnmi, State.ctrlQuery, hctrl, List.head?_nil,
      Bool.false_eq_true, if_false, ite_self]

end InterruptCheck

/-- Settles O54: `interruptCheck` case by case. -/
theorem interruptCheckPriority : Obligations.InterruptCheckPriority := by
  intro s
  refine ⟨_, rfl, interruptCheck_noint, fun hnoint htrap => ?_, fun hnoint htrap hnmi henable => ?_,
    fun hnoint htrap hnmi => ⟨fun v vs hif hctrl => ?_, interruptCheck_nothing hnoint htrap hnmi⟩⟩
  · rw [interruptCheck_trap hnoint htrap]
    exact entered_service _ _ _
  · rw [interruptCheck_nmi hnoint htrap (by rw [hnmi, henable]; rfl)]
    exact entered_service _ _ _
  · rw [interruptCheck_ctrl hnoint htrap hnmi hif hctrl]
    exact entered_service _ _ _

/-- What INTERRUPT-CHECK does: it clears a set suppression flag, or enters a vector, or does nothing; an entry may
clear the NMI latch or take the controller's request. -/
theorem interruptCheck_cases (s : State) :
    (s.noint = true ∧ s.interruptCheck = { s with noint := false }) ∨
      (s.noint = false ∧
        (s.interruptCheck = s ∨
          ∃ p c a v, (p = true → s.nmiPending = true) ∧
            s.interruptCheck = State.service { s with nmiPending := p, ctrl := c, acked := a } v s.ip)) := by
  by_cases hnoint : s.noint = true
  · exact .inl ⟨hnoint, interruptCheck_noint hnoint⟩
  · have hnoint : s.noint = false := by simpa using hnoint
    refine .inr ⟨hnoint, ?_⟩
    by_cases htrap : s.trapPending = true
    · exact .inr ⟨_, _, _, _, id, interruptCheck_trap hnoint htrap⟩
    · have htrap : s.trapPending = false := by simpa using htrap
      by_cases hnmi : (s.nmiPending && s.nmiEnable) = true
      · exact .inr ⟨false, s.ctrl, s.acked, 2#8, Bool.noConfusion, interruptCheck_nmi hnoint htrap hnmi⟩
      · have hnmi : (s.nmiPending && s.nmiEnable) = false := by simpa using hnmi
        by_cases hquiet : s.flags.IF = false ∨ s.ctrl = []
        · exact .inl (interruptCheck_nothing hnoint htrap hnmi hquiet)
        · rw [not_or, Bool.not_eq_false] at hquiet
          obtain ⟨v, vs, hctrl⟩ := List.exists_cons_of_ne_nil hquiet.2
          exact .inr ⟨_, _, _, _, id, interruptCheck_ctrl hnoint htrap hnmi hquiet.1 hctrl⟩

/-- INTERRUPT-CHECK leaves the override, LOCK and REP state alone and the suppression flag clear. -/
theorem interruptCheck_keeps (s : State) :
    s.interruptCheck.ovr = s.ovr ∧ s.interruptCheck.rep = s.rep ∧ s.interruptCheck.lock = s.lock ∧
      s.interruptCheck.repeating = s.repeating ∧ s.interruptCheck.noint = false := by
  obtain ⟨-, h⟩ | ⟨hnoint, h | ⟨p, c, a, v, -, h⟩⟩ := interruptCheck_cases s
  · rw [h]
    exact ⟨rfl, rfl, rfl, rfl, rfl⟩
  · rw [h]
    exact ⟨rfl, rfl, rfl, rfl, hnoint⟩
  · have hframe := (entered_service { s with nmiPending := p, ctrl := c, acked := a } v s.ip).1
    rw [h, hframe]
    exact ⟨rfl, rfl, rfl, rfl, hnoint⟩

/-- The state at the end of an instruction, before INTERRUPT-CHECK (30_encoding.md R157). -/
def withoutPrefixState (s : State) : State := { s with ovr := none, rep := none, lock := false, repeating := none }

/-- Settles O55. -/
theorem instructionEnd : Obligations.InstructionEnd := by
  intro s
  have hend : s.endInstr = (withoutPrefixState s).interruptCheck := rfl
  obtain ⟨hovr, hrep, hlock, hrepeating, hnoint⟩ := interruptCheck_keeps (withoutPrefixState s)
  refine ⟨withoutPrefixState s, rfl, hend, ?_⟩
  rw [hend]
  refine ⟨hovr, hrep, hlock, hrepeating, hnoint, interruptCheck_noint (s := withoutPrefixState s), fun h htrap => ?_⟩
  rw [interruptCheck_trap (s := withoutPrefixState s) h htrap]
  exact entered_service _ _ _

/-! ## The halted step (45_processor_control.md R417) -/

/-- R417: a halted step is a fill point without the trap latch and INTERRUPT-CHECK. -/
theorem step_halted {s : State} (h : s.halted = true) :
    step s = .next (State.fill { s with trapPending := false }).interruptCheck := by
  rw [step, if_pos h]
  exact congrArg (fun u : State => Host.Outcome.next u.interruptCheck) (fill_withTrap s false).symm

/-- R417: without the trap latch, INTERRUPT-CHECK ends a halt exactly when it enters a vector. -/
theorem interruptCheck_halted_iff {u : State} (hhalted : u.halted = true) (htrap : u.trapPending = false) :
    u.interruptCheck.halted = false ↔ u.noint = false ∧
      ((u.nmiPending = true ∧ u.nmiEnable = true) ∨ (u.flags.IF = true ∧ u.ctrl ≠ [])) := by
  have hawake : ∀ (w : State) (v : Byte), (w.service v u.ip).halted = false := fun _ _ => rfl
  cases hnoint : u.noint with
  | true => simp [interruptCheck_noint hnoint, hhalted]
  | false =>
    cases hnmi : u.nmiPending && u.nmiEnable with
    | true =>
      rw [interruptCheck_nmi hnoint htrap hnmi, hawake]
      simp [Bool.and_eq_true_iff.mp hnmi]
    | false =>
      have hnmi' : ¬ (u.nmiPending = true ∧ u.nmiEnable = true) := by simp [← Bool.and_eq_true, hnmi]
      by_cases hquiet : u.flags.IF = false ∨ u.ctrl = []
      · rw [interruptCheck_nothing hnoint htrap hnmi hquiet, hhalted]
        obtain hif | hctrl := hquiet
        · simp [hnmi', hif]
        · simp [hnmi', hctrl]
      · rw [not_or, Bool.not_eq_false] at hquiet
        obtain ⟨v, vs, hctrl⟩ := List.exists_cons_of_ne_nil hquiet.2
        rw [interruptCheck_ctrl hnoint htrap hnmi hquiet.1 hctrl, hawake]
        simp [hquiet]

/-- Settles O56: INTERRUPT-CHECK after the fill point, case by case; only an entry ends the halt. -/
theorem haltedStep : Obligations.HaltedStep := by
  intro s hhalted
  refine ⟨State.fill { s with trapPending := false }, _, filled_fill _, step_halted hhalted, ?_⟩
  have htrap : (State.fill { s with trapPending := false }).trapPending = false := State.fill_trapPending _
  have hhalted' : (State.fill { s with trapPending := false }).halted = true := hhalted
  have hip : (State.fill { s with trapPending := false }).ip = s.ip := State.fill_ip _
  have hif : (State.fill { s with trapPending := false }).flags = s.flags := State.fill_flags _
  have hnoint : (State.fill { s with trapPending := false }).noint = s.noint := State.fill_noint _
  have hnmi : (State.fill { s with trapPending := false }).nmiPending = s.nmiPending := State.fill_nmiPending _
  have henable : (State.fill { s with trapPending := false }).nmiEnable = s.nmiEnable := State.fill_nmiEnable _
  have hctrl : (State.fill { s with trapPending := false }).ctrl = s.ctrl := State.fill_ctrl _
  have hacked : (State.fill { s with trapPending := false }).acked = s.acked := State.fill_acked _
  generalize State.fill { s with trapPending := false } = u at *
  rw [← hip, ← hif, ← hnoint, ← hnmi, ← henable, ← hctrl, ← hacked]
  refine ⟨interruptCheck_noint, fun hn hp he => ?_, fun hn hp => ⟨fun v vs hi hc => ?_,
    interruptCheck_nothing hn htrap hp⟩, interruptCheck_halted_iff hhalted' htrap⟩
  · rw [interruptCheck_nmi hn htrap (by rw [hp, he]; rfl)]
    exact entered_service _ _ _
  · rw [interruptCheck_ctrl hn htrap hp hi hc]
    exact entered_service _ _ _

end Sys2Proof.Machine
end

section
/-! The step (30_encoding.md R134, R152 to R157): fetching, the start of an instruction and what runs between them; the
reset and the instructions of processor control (45_processor_control.md). -/

namespace Sys2Proof.Machine

open Sys2Proof Sys2Proof.Claims

/-! ## Fetching (20_memory.md R101) -/

/-- R101: the first byte comes from the queue, else from memory at CS:ip, and the others are taken after it. -/
theorem fetchBytes_succ (n : Nat) (s : State) :
    State.fetchBytes (n + 1) s =
      (s.queue.getD 0 (s.readByte s.segs.cs s.ip) ::
          (State.fetchBytes n { s with queue := s.queue.drop 1, ip := s.ip + 1#16 }).1,
        (State.fetchBytes n { s with queue := s.queue.drop 1, ip := s.ip + 1#16 }).2) := by
  rw [State.fetchBytes, fetch8_eq]

/-- R101: `n` bytes taken leave the queue without its first `n` bytes and `ip` advanced by `n`. -/
theorem fetchBytes_state (n : Nat) (s : State) :
    (State.fetchBytes n s).2 = { s with queue := s.queue.drop n, ip := s.ip + BitVec.ofNat 16 n } := by
  induction n generalizing s with
  | zero => simp [State.fetchBytes]
  | succ n ih =>
    have hip : s.ip + 1#16 + BitVec.ofNat 16 n = s.ip + BitVec.ofNat 16 (n + 1) := by
      rw [BitVec.add_assoc, Nat.add_comm n 1, BitVec.ofNat_add]
    rw [fetchBytes_succ, ih]
    simp only [List.drop_drop, hip, Nat.add_comm 1 n]

/-- R101: the bytes taken. -/
theorem fetchBytes_bytes (n : Nat) (s : State) :
    (State.fetchBytes n s).1 = (List.range n).map (fun k =>
      s.queue.getD k (s.readByte s.segs.cs (s.ip + BitVec.ofNat 16 k))) := by
  induction n generalizing s with
  | zero => rfl
  | succ n ih =>
    rw [fetchBytes_succ, List.range_succ_eq_map, List.map_cons, List.map_map, ih]
    refine congrArg₂ List.cons (by simp) (List.map_congr_left fun k _ => ?_)
    have hip : s.ip + 1#16 + BitVec.ofNat 16 k = s.ip + BitVec.ofNat 16 (k + 1) := by
      rw [BitVec.add_assoc, Nat.add_comm k 1, BitVec.ofNat_add]
    simp only [Function.comp_apply, hip, List.getD_eq_getElem?_getD, List.getElem?_drop, Nat.add_comm 1 k]
    rfl

/-- Settles O5, by induction on the number of bytes. -/
theorem fetchTakesQueueThenMemory : Obligations.FetchTakesQueueThenMemory :=
  fun n s => ⟨fetchBytes_bytes n s, fetchBytes_state n s⟩

/-! ## A step (30_encoding.md R134, R152 to R157) -/

/-- R153: an instruction that decodes from the six bytes fetched, and that is none of the bytes of R133, ends the step. -/
theorem runUnits_of_decode {u : State} {i : Instr} {rest : List Byte} (fuel : Nat)
    (hdecode : decode u.cfg (State.fetchBytes 6 u).1 = .ok (i, rest)) (hi : isPrefix i = false) :
    runUnits (fuel + 1) u = ended (exec i
      (State.fill { (State.fetchBytes (6 - rest.length) u).2 with opIp := u.ip, prefixing := false })) := by
  have hfetch : u.fetchInstr =
      .ok (i, { (State.fetchBytes (6 - rest.length) u).2 with opIp := u.ip, prefixing := false }) := by
    rw [State.fetchInstr, maxInstrBytes, hdecode]
  rw [runUnits, hfetch]
  dsimp only
  cases exec i (State.fill { (State.fetchBytes (6 - rest.length) u).2 with opIp := u.ip, prefixing := false }) with
  | next t =>
    dsimp only
    rw [hi, finish_ended]
    rfl
  | fault r => rfl
  | refused r => rfl

/-- Settles O6: the bytes of R133 are taken by `step_prefixRun`; the instruction after them ends the step, or the bound
is reached. -/
theorem stepRunsDecodedInstruction : Obligations.StepRunsDecodedInstruction := by
  intro s u n hhalted hrepeating hrun
  refine ⟨fun i rest hn hdecode hi => ?_, fun hn => ?_⟩
  · obtain ⟨fuel, hfuel⟩ := Nat.exists_eq_succ_of_ne_zero (Nat.sub_ne_zero_of_lt hn)
    rw [step_prefixRun hhalted hrepeating hrun hn.le, hfuel]
    exact runUnits_of_decode fuel hdecode hi
  · rw [step_prefixRun hhalted hrepeating hrun hn.le, hn, Nat.sub_self]
    rfl

/-- Settles O7. -/
theorem instructionStart : Obligations.InstructionStart :=
  fun s => ⟨filled_fill s, s.fill, filled_fill s, rfl⟩

/-- Settles O8. -/
theorem prefixesSetPrefixState : Obligations.PrefixesSetPrefixState :=
  fun _ => ⟨rfl, rfl, rfl, rfl, rfl, rfl, rfl, rfl⟩

/-! ## Reset (10_state.md R51) -/

/-- Settles O10. -/
theorem resetHasInvariant : Obligations.ResetHasInvariant :=
  ⟨rfl, Nat.zero_le _, fun h => (nomatch h), fun h => (nomatch h)⟩

/-- Settles O12. -/
theorem resetValues : Obligations.ResetValues := by
  intro s hard gpr
  have himage : Flags.image ⟨false, false, false, false, false, false, false, false, false⟩ = 0xF002 := by decide
  have hfetch : phys 0xFFFF#16 0#16 = 0xFFFF0 := by decide
  exact ⟨_, rfl, rfl, rfl, himage, rfl, rfl, rfl, rfl, rfl, rfl, rfl, rfl, rfl, rfl, rfl, rfl, fun _ => rfl, rfl, rfl,
    hfetch, rfl⟩

/-! ## Processor control (45_processor_control.md R410 to R419) -/

/-- R416: STI sets the suppression flag under `P_STI_SHADOW = 1` only. -/
theorem exec_sti (s : State) :
    exec .sti s =
      .next { s with flags := { s.flags with IF := true }, noint := s.noint || s.cfg.stiShadow } := rfl

/-- Settles O57. -/
theorem flagInstructions : Obligations.FlagInstructions := by
  intro s
  refine ⟨rfl, rfl, rfl, rfl, rfl, rfl, fun hshadow => ?_, fun hshadow => ?_⟩
  · rw [exec_sti, hshadow, Bool.or_false]
  · rw [exec_sti, hshadow, Bool.or_true]

/-- R440: the bytes that `noop` puts outside the known set. -/
theorem undocByte_iff (b : Byte) : undocByte b = true ↔ b ∈ undocumentedBytes := by
  revert b
  decide

/-- R449: an unknown opcode is well-formed exactly for those bytes, under `noop`. -/
theorem unknownOpcode_wf_iff (cfg : Config) (b : Byte) :
    (Instr.unknownOpcode b).wf cfg = true ↔ cfg.undoc = .noop ∧ b ∈ undocumentedBytes := by
  rw [← undocByte_iff]
  show (true && (cfg.undoc == .noop && undocByte b)) = true ↔ _
  rw [Bool.true_and, Bool.and_eq_true, beq_iff_eq]

/-- Settles O58: the bytes of the unknown opcode come from O1 and O2. -/
theorem haltAndNoEffect : Obligations.HaltAndNoEffect := by
  intro s x y w b
  refine ⟨rfl, rfl, rfl, rfl, rfl, fun rest hnoop hb => ?_, fun bytes c rest hdecode => ?_⟩
  · exact decodeOfEncode s.cfg (.unknownOpcode b) rest ((unknownOpcode_wf_iff s.cfg b).mpr ⟨hnoop, hb⟩)
  · obtain ⟨hwf, hbytes⟩ := encodeOfDecode s.cfg bytes _ rest hdecode
    obtain ⟨hnoop, hc⟩ := (unknownOpcode_wf_iff s.cfg c).mp hwf
    exact ⟨hnoop, hc, hbytes⟩

end Sys2Proof.Machine
end

section
/-! What every instruction can do: `Data`, a change of registers, arithmetic flags and memory, and `Effect`, the kinds
of changes beyond it, with one classification of all instructions (`exec_effect`). -/

namespace Sys2Proof.Machine

open Sys2Proof Sys2Proof.Claims

/-! ## Changes of data -/

theorem systemFlagsKept_refl (f : Flags) : SystemFlagsKept f f := ⟨rfl, rfl, rfl⟩

theorem systemFlagsKept_trans {f g h : Flags} (hfg : SystemFlagsKept f g) (hgh : SystemFlagsKept g h) :
    SystemFlagsKept f h := by
  obtain ⟨htf, hif, hdf⟩ := hfg
  obtain ⟨htf', hif', hdf'⟩ := hgh
  exact ⟨htf'.trans htf, hif'.trans hif, hdf'.trans hdf⟩

/-- Two changes of data are one. -/
theorem onlyData_trans {s t u : State} (h : OnlyData s t) (h' : OnlyData t u) : OnlyData s u := by
  have ht : t = _ := h
  have hu : u = _ := h'
  calc u = _ := hu
    _ = _ := by rw [ht]

/-- Nothing but data differs, the system flags are kept, and so are memory's canonical form and the queue's bound. -/
structure Data (s t : State) : Prop where
  only : OnlyData s t
  flags : SystemFlagsKept s.flags t.flags
  memory : s.mem.wf = true → t.mem.wf = true
  queue : s.queue.length ≤ queueCap s.cfg → t.queue.length ≤ queueCap s.cfg

namespace Data

variable {s t u : State}

theorem refl (s : State) : Data s s := ⟨rfl, systemFlagsKept_refl _, id, id⟩

theorem cfg_eq (h : Data s t) : t.cfg = s.cfg := (congrArg State.cfg h.only).trans rfl

theorem trans (h : Data s t) (h' : Data t u) : Data s u where
  only := onlyData_trans h.only h'.only
  flags := systemFlagsKept_trans h.flags h'.flags
  memory := fun hm => h'.memory (h.memory hm)
  queue := by
    have hqueue := h'.queue
    rw [h.cfg_eq] at hqueue
    exact fun hq => hqueue (h.queue hq)

theorem setReg (s : State) (r : Reg) (v : Word) : Data s (s.setReg r v) := ⟨rfl, systemFlagsKept_refl _, id, id⟩

theorem setReg8 (s : State) (r : Reg8) (v : Byte) : Data s (s.setReg8 r v) := ⟨rfl, systemFlagsKept_refl _, id, id⟩

theorem setFlags {f : Flags} (h : SystemFlagsKept s.flags f) : Data s (s.setFlags f) := ⟨rfl, h, id, id⟩

theorem advance (s : State) (k : Nat) : Data s (s.advance k) := ⟨rfl, systemFlagsKept_refl _, id, id⟩

theorem writeByte (s : State) (sg off : Word) (v : Byte) : Data s (s.writeByte sg off v) where
  only := (wr8_moves s (.mem sg off) v).1
  flags := s.writeByte_flags sg off v ▸ systemFlagsKept_refl _
  memory := s.writeByte_wf sg off v
  queue := s.writeByte_queue_le sg off v

theorem writeWord (s : State) (sg off v : Word) : Data s (s.writeWord sg off v) where
  only := (wr16_moves s (.mem sg off) v).1
  flags := s.writeWord_flags sg off v ▸ systemFlagsKept_refl _
  memory := s.writeWord_wf sg off v
  queue := s.writeWord_queue_le sg off v

theorem push16 (s : State) (v : Word) : Data s (s.push16 v) := (setReg s _ _).trans (writeWord _ _ _ _)

theorem wr8 (s : State) (l : Loc Reg8) (v : Byte) : Data s (s.wr8 l v) := by
  cases l with
  | reg r => exact setReg8 s r v
  | mem sg off => exact writeByte s sg off v

theorem wr16 (s : State) (l : Loc Reg) (v : Word) : Data s (s.wr16 l v) := by
  cases l with
  | reg r => exact setReg s r v
  | mem sg off => exact writeWord s sg off v

/-! ### The operations of the instructions -/

theorem aluSet {n : Nat} (s : State) (op : AluOp) (a b : BitVec n) : Data s (s.aluSet op a b) :=
  (setFlags (aluHolds_aluFlags op s a b (s.freeBit 0)).2).trans (advance _ _)

theorem alu8 (s : State) (op : AluOp) (e : RM Reg8) (b : Byte) : Data s (s.alu8 op e b) := by
  by_cases hcmp : op = .cmp
  · rw [State.alu8, if_pos hcmp]
    exact aluSet s op _ b
  · rw [s.alu8_eq hcmp]
    exact (aluSet s op _ b).trans (wr8 _ _ _)

theorem alu16 (s : State) (op : AluOp) (e : RM Reg) (b : Word) : Data s (s.alu16 op e b) := by
  by_cases hcmp : op = .cmp
  · rw [State.alu16, if_pos hcmp]
    exact aluSet s op _ b
  · rw [s.alu16_eq hcmp]
    exact (aluSet s op _ b).trans (wr16 _ _ _)

theorem shift8 (s : State) (op : ShiftOp) (e : RM Reg8) (count : Nat) : Data s (s.shift8 op e count) := by
  unfold State.shift8
  split
  · exact refl s
  · exact ((setFlags (shiftFlags_holds op count (s.rdE8 e) _ _ _ s.flags).2).trans (advance _ _)).trans (wr8 _ _ _)

theorem shift16 (s : State) (op : ShiftOp) (e : RM Reg) (count : Nat) : Data s (s.shift16 op e count) := by
  unfold State.shift16
  split
  · exact refl s
  · exact ((setFlags (shiftFlags_holds op count (s.rdE16 e) _ _ _ s.flags).2).trans (advance _ _)).trans (wr16 _ _ _)

theorem inc8 (s : State) (e : RM Reg8) : Data s (s.inc8 e) :=
  (setFlags (f := incFlags (s.rdE8 e) s.flags) ⟨rfl, rfl, rfl⟩).trans (wr8 _ _ _)

theorem inc16 (s : State) (e : RM Reg) : Data s (s.inc16 e) :=
  (setFlags (f := incFlags (s.rdE16 e) s.flags) ⟨rfl, rfl, rfl⟩).trans (wr16 _ _ _)

theorem dec8 (s : State) (e : RM Reg8) : Data s (s.dec8 e) :=
  (setFlags (f := decFlags (s.rdE8 e) s.flags) ⟨rfl, rfl, rfl⟩).trans (wr8 _ _ _)

theorem dec16 (s : State) (e : RM Reg) : Data s (s.dec16 e) :=
  (setFlags (f := decFlags (s.rdE16 e) s.flags) ⟨rfl, rfl, rfl⟩).trans (wr16 _ _ _)

theorem test {n : Nat} (s : State) (a b : BitVec n) : Data s (s.test a b) :=
  (setFlags (s.test_setsFlags a b).2.1).trans (advance _ _)

theorem drawFlags (s : State) : Data s s.drawFlags :=
  (setFlags (drawFlags_only s).2).trans (advance _ _)

theorem mulEnd (s : State) (c : Bool) : Data s (s.mulEnd c) :=
  (setFlags (f := mulFlags c _ _ _ _ s.flags) ⟨rfl, rfl, rfl⟩).trans (advance _ _)

theorem setPair (s : State) (p : BitVec (16 + 16)) : Data s (s.setPair p) := (setReg s _ _).trans (setReg _ _ _)

theorem swapAx (s : State) (r : Reg) : Data s (s.swapAx r) := (setReg s _ _).trans (setReg _ _ _)

theorem pushReg (s : State) (r : Reg) : Data s (s.pushReg r) := by
  rw [s.pushReg_eq]
  exact push16 s _

theorem pushOperand (s : State) (e : RM Reg) : Data s (s.pushOperand e) := by
  cases e with
  | reg r => exact pushReg s r
  | mem m => exact push16 s _

theorem pop16 (s : State) : Data s s.pop16.2 := setReg s _ _

/-- A register, the flags and the counter of free values are written. -/
theorem setReg_setFlags (s : State) (r : Reg) (v : Word) {f : Flags} (h : SystemFlagsKept s.flags f) (k : Nat) :
    Data s (((s.setReg r v).setFlags f).advance k) :=
  ((setReg s r v).trans (setFlags h)).trans (advance _ k)

/-- A byte register, the flags and the counter of free values are written. -/
theorem setReg8_setFlags (s : State) (r : Reg8) (v : Byte) {f : Flags} (h : SystemFlagsKept s.flags f) (k : Nat) :
    Data s (((s.setReg8 r v).setFlags f).advance k) :=
  ((setReg8 s r v).trans (setFlags h)).trans (advance _ k)

theorem writeElement (s : State) (w : Width) (sg off v : Word) : Data s (s.writeElement w sg off v) := by
  cases w with
  | byte => exact writeByte s sg off _
  | word => exact writeWord s sg off v

theorem element (s : State) (x : StrInsn) : Data s (s.element x) where
  only := (onlyData_element s x).1
  flags := (onlyData_element s x).2
  memory := by
    obtain ⟨op, w⟩ := x
    cases op with
    | movs => rw [s.element_movs]; exact (writeElement s w _ _ _).memory
    | cmps => rw [s.element_cmps]; exact id
    | stos => rw [s.element_stos]; exact (writeElement s w _ _ _).memory
    | lods => rw [s.element_lods]; cases w <;> exact id
    | scas => rw [s.element_scas]; exact id
  queue := by
    obtain ⟨op, w⟩ := x
    cases op with
    | movs => rw [s.element_movs]; exact (writeElement s w _ _ _).queue
    | cmps => rw [s.element_cmps]; exact id
    | stos => rw [s.element_stos]; exact (writeElement s w _ _ _).queue
    | lods => rw [s.element_lods]; cases w <;> exact id
    | scas => rw [s.element_scas]; exact id

end Data

/-! ## The kinds of effects -/

/-- The segment register that an instruction loads without a transfer of control (10_state.md R33). -/
def loadedSeg : Instr → Option SReg
  | .movSregEw x _ => some x
  | .popEs | .lesGvMp _ _ => some .es
  | .popDs | .ldsGvMp _ _ => some .ds
  | .popCs => some .cs
  | .popSs => some .ss
  | _ => none

/-- The port instructions (20_memory.md R88). -/
def usesPort : Instr → Bool
  | .inAlIb _ | .inAxIb _ | .inAlDx | .inAxDx | .outIbAl _ | .outIbAx _ | .outDxAl | .outDxAx => true
  | _ => false

/-- A change of the system flags by one of their writers (10_state.md R37). -/
def FlagsAdmitted (i : Instr) (f g : Flags) : Prop :=
  (g.DF ≠ f.DF → i ∈ [.cld, .std, .popf, .iret]) ∧ (g.TF ≠ f.TF → i ∈ [.popf, .iret]) ∧
    (g.IF ≠ f.IF → i ∈ [.sti, .cli, .popf, .iret])

/-- What an instruction that completes leaves, by the kind of its effect. -/
inductive Effect (i : Instr) (s : State) : State → Prop
  /-- Registers, arithmetic flags and memory. -/
  | data {t : State} (data : Data s t) : Effect i s t
  /-- A near transfer. -/
  | near {t : State} (data : Data s t) (target : Word) : Effect i s (t.jump target)
  /-- A far transfer. -/
  | far {t : State} (writer : writesCs i = true) (data : Data s t) (sg off : Word) : Effect i s (t.farJump sg off)
  /-- A vectored transfer, after which the arithmetic flags may be free. -/
  | entry (writer : canEnter i = true) {v : Byte} {u : State} (serviced : u = s.service v s.ip) {f : Flags}
      (flags : SystemFlagsKept u.flags f) (n : Nat) : Effect i s { u with flags := f, draws := n }
  /-- The return from a handler. -/
  | iret (writer : i = .iret) : Effect i s s.returnFromInterrupt
  /-- A load of a segment register; that of CS empties the queue. -/
  | segment {x : SReg} (writer : loadedSeg i = some x) (v : Word) (r : Regs) (n : Bool) (q : List Byte)
      (queue : q = [] ∨ x ≠ .cs ∧ q = s.queue) :
      Effect i s { s with segs := s.segs.set x v, regs := r, noint := n, queue := q }
  /-- A write of the system flags. -/
  | flags (r : Regs) (f : Flags) (n : Bool) (writer : FlagsAdmitted i s.flags f) :
      Effect i s { s with regs := r, flags := f, noint := n }
  /-- A call of the I/O space. -/
  | port (writer : usesPort i = true) (r : Regs) (e : IoEvent) (n : Nat) :
      Effect i s { s with regs := r, ioLog := e :: s.ioLog, draws := n }
  /-- The halt. -/
  | halt (writer : i = .hlt) : Effect i s { s with halted := true }
  /-- A segment override, LOCK or REP byte. -/
  | prefixByte (writer : isPrefix i = true) (o : Option SReg) (r : Option RepKind) (l : Bool) :
      Effect i s { s with ovr := o, rep := r, lock := l }
  /-- An iteration of a repeated string instruction. -/
  | iteration {t : State} (data : Data s t) (rep : s.rep.isSome = true) (y : Option StrInsn) :
      Effect i s { t with repeating := y }
  /-- The interruption of a repeated string instruction. -/
  | interrupted (target : Word) : Effect i s { s.jump target with repeating := none }
  /-- An opcode byte outside the known set. -/
  | unknown {b : Byte} (writer : i = .unknownOpcode b) (target : Word) : Effect i s { s with ip := target }

/-- A property of the state in which an execution ends, if it ends in one. -/
def Ends (P : State → Prop) : Result → Prop
  | .next t => P t
  | .fault _ => True
  | .refused _ => True

theorem ends_mulGuard {P : State → Prop} {s t : State} (h : P t) : Ends P (s.mulGuard t) := by
  unfold State.mulGuard
  split
  · trivial
  · split
    · exact h
    · trivial

theorem ends_unless {P : State → Prop} {t : State} {c : Bool} {r : Refusal} (h : P t) :
    Ends P (if c then .refused r else .next t) := by
  split
  · trivial
  · exact h

/-- R341: an iteration does at most one element and says what repeats, or it is interrupted. -/
theorem repIteration_cases (s : State) (x : StrInsn) :
    (∃ t y, Data s t ∧ s.repIteration x = { t with repeating := y }) ∨
      ∃ target, s.repIteration x = { s.jump target with repeating := none } := by
  unfold State.repIteration
  split
  · exact .inl ⟨s, none, .refl s, rfl⟩
  · split
    · exact .inr ⟨_, rfl⟩
    · have hdata := (Data.setReg s .cx (s.regs.cx - 1#16)).trans (.element _ x)
      dsimp only
      split
      · exact .inl ⟨_, none, hdata, rfl⟩
      · exact .inl ⟨_, some x, hdata, rfl⟩

section

variable {i : Instr} {s : State}

theorem effect_service (hi : canEnter i = true) (v : Byte) : Effect i s (s.service v s.ip) := by
  obtain ⟨u, hu⟩ : ∃ u, u = s.service v s.ip := ⟨_, rfl⟩
  rw [← hu]
  exact .entry hi hu (systemFlagsKept_refl u.flags) u.draws

theorem effect_divideError (hi : canEnter i = true) : Effect i s s.divideError := by
  obtain ⟨u, hu⟩ : ∃ u, u = s.service 0#8 s.ip := ⟨_, rfl⟩
  obtain ⟨hdraw, hsys⟩ := drawFlags_only u
  rw [State.divideError, ← hu, hdraw]
  exact .entry hi hu hsys _

theorem effect_divide8 (hi : canEnter i = true) (o : Option (Byte × Byte)) : Effect i s (s.divide8 o) := by
  cases o with
  | none => exact effect_divideError hi
  | some p => exact .data ((Data.drawFlags s).trans (.setReg _ _ _))

theorem effect_divide16 (hi : canEnter i = true) (o : Option (Word × Word)) : Effect i s (s.divide16 o) := by
  cases o with
  | none => exact effect_divideError hi
  | some p => exact .data (((Data.drawFlags s).trans (.setReg _ _ _)).trans (.setReg _ _ _))

theorem effect_jumpIf {t : State} (h : Data s t) (c : Bool) (rel : Byte) : Effect i s (t.jumpIf c rel) := by
  cases c with
  | false => exact .data h
  | true => exact .near h _

theorem effect_loadSeg {x : SReg} (hi : loadedSeg i = some x) (v : Word) : Effect i s (s.loadSeg x v) := by
  rw [s.loadSeg_eq]
  exact .segment hi v s.regs true _ (by by_cases hx : x = .cs <;> simp [hx])

theorem effect_popSeg {x : SReg} (hi : loadedSeg i = some x) : Effect i s (s.pop16.2.loadSeg x s.pop16.1) := by
  rw [s.popSeg_eq]
  exact .segment hi _ _ true _ (by by_cases hx : x = .cs <;> simp [hx])

theorem effect_repIteration {k : RepKind} (hrep : s.rep = some k) (x : StrInsn) : Effect i s (s.repIteration x) := by
  obtain ⟨t, y, hdata, h⟩ | ⟨target, h⟩ := repIteration_cases s x
  · rw [h]
    exact .iteration hdata (by rw [hrep]; rfl) y
  · rw [h]
    exact .interrupted target

theorem effect_stringInsn (x : StrInsn) : Effect i s (s.stringInsn x) := by
  cases hrep : s.rep with
  | none =>
    rw [stringInsn_noRep s x hrep]
    exact .data (.element s x)
  | some k =>
    rw [State.stringInsn, hrep]
    exact effect_repIteration hrep x

end

/-- The effect of each instruction, where it completes. -/
theorem exec_effect (i : Instr) (s : State) : Ends (Effect i s) (exec i s) := by
  cases i
  case addEbGb e g | adcEbGb e g | subEbGb e g | sbbEbGb e g | cmpEbGb e g | andEbGb e g | orEbGb e g |
      xorEbGb e g | addGbEb g e | adcGbEb g e | subGbEb g e | sbbGbEb g e | cmpGbEb g e | andGbEb g e |
      orGbEb g e | xorGbEb g e | addAlIb imm | adcAlIb imm | subAlIb imm | sbbAlIb imm | cmpAlIb imm |
      andAlIb imm | orAlIb imm | xorAlIb imm | addEbIb e imm | addEbIb82 e imm | adcEbIb e imm |
      adcEbIb82 e imm | subEbIb e imm | subEbIb82 e imm | sbbEbIb e imm | sbbEbIb82 e imm | cmpEbIb e imm |
      cmpEbIb82 e imm | andEbIb e imm | andEbIb82 e imm | orEbIb e imm | orEbIb82 e imm | xorEbIb e imm |
      xorEbIb82 e imm =>
    exact .data (.alu8 s _ _ _)
  case addEvGv e g | adcEvGv e g | subEvGv e g | sbbEvGv e g | cmpEvGv e g | andEvGv e g | orEvGv e g |
      xorEvGv e g | addGvEv g e | adcGvEv g e | subGvEv g e | sbbGvEv g e | cmpGvEv g e | andGvEv g e |
      orGvEv g e | xorGvEv g e | addAxIv imm | adcAxIv imm | subAxIv imm | sbbAxIv imm | cmpAxIv imm |
      andAxIv imm | orAxIv imm | xorAxIv imm | addEvIv e imm | adcEvIv e imm | subEvIv e imm | sbbEvIv e imm |
      cmpEvIv e imm | andEvIv e imm | orEvIv e imm | xorEvIv e imm | addEvIbSx e imm | adcEvIbSx e imm |
      subEvIbSx e imm | sbbEvIbSx e imm | cmpEvIbSx e imm | andEvIbSx e imm | orEvIbSx e imm |
      xorEvIbSx e imm =>
    exact .data (.alu16 s _ _ _)
  case rolEb1 e | rorEb1 e | rclEb1 e | rcrEb1 e | shlEb1 e | shrEb1 e | sarEb1 e | rolEbCl e | rorEbCl e |
      rclEbCl e | rcrEbCl e | shlEbCl e | shrEbCl e | sarEbCl e =>
    exact .data (.shift8 s _ _ _)
  case rolEv1 e | rorEv1 e | rclEv1 e | rcrEv1 e | shlEv1 e | shrEv1 e | sarEv1 e | rolEvCl e | rorEvCl e |
      rclEvCl e | rcrEvCl e | shlEvCl e | shrEvCl e | sarEvCl e =>
    exact .data (.shift16 s _ _ _)
  case incEb e =>
    exact .data (.inc8 s _)
  case decEb e =>
    exact .data (.dec8 s _)
  case incR16 r | incEv e =>
    exact .data (.inc16 s _)
  case decR16 r | decEv e =>
    exact .data (.dec16 s _)
  case negEb e =>
    exact .data ((Data.setFlags (subFlags_zero (by decide) (s.rdE8 e) s.flags).1).trans (.wr8 _ _ _))
  case negEv e =>
    exact .data ((Data.setFlags (subFlags_zero (by decide) (s.rdE16 e) s.flags).1).trans (.wr16 _ _ _))
  case aaa | aas =>
    exact .data (.setReg_setFlags s _ _ (f := asciiFlags _ _ _ _ _ s.flags) ⟨rfl, rfl, rfl⟩ _)
  case daa =>
    exact .data (.setReg8_setFlags s _ _ (f := daaFlags _ _ s.flags) ⟨rfl, rfl, rfl⟩ _)
  case das =>
    exact .data (.setReg8_setFlags s _ _ (f := dasFlags _ _ s.flags) ⟨rfl, rfl, rfl⟩ _)
  case mulEb e | imulEb e =>
    exact ends_mulGuard (.data ((Data.setReg s _ _).trans (.mulEnd _ _)))
  case mulEv e | imulEv e =>
    exact ends_mulGuard (.data ((Data.setPair s _).trans (.mulEnd _ _)))
  case aadIb imm =>
    show Ends _ (execAadIb imm s)
    unfold execAadIb
    split
    · exact .data (.setReg_setFlags s _ _ (f := aamFlags _ _ _ _ s.flags) ⟨rfl, rfl, rfl⟩ _)
    · trivial
  case aamIb imm =>
    show Ends _ (execAamIb imm s)
    unfold execAamIb
    split
    · exact effect_divideError rfl
    · exact .data (.setReg_setFlags s _ _ (f := aamFlags _ _ _ _ s.flags) ⟨rfl, rfl, rfl⟩ _)
  case divEb e | idivEb e =>
    exact ends_unless (effect_divide8 rfl _)
  case divEv e | idivEv e =>
    exact ends_unless (effect_divide16 rfl _)
  case cbw | cwd | movGvEv g e | movR16Iv r imm | movAxOv off =>
    exact .data (.setReg s _ _)
  case movGbEb g e | movR8Ib r imm | movAlOb off | xlat | lahf | salc =>
    exact .data (.setReg8 s _ _)
  case movEbGb e g | movEbIb e imm | notEb e =>
    exact .data (.wr8 s _ _)
  case movEvGv e g | movEvIv e imm | movEwSreg e sr | notEv e =>
    exact .data (.wr16 s _ _)
  case movObAl off =>
    exact .data (.writeByte s _ _ _)
  case movOvAx off =>
    exact .data (.writeWord s _ _ _)
  case pushR16 r =>
    exact .data (.pushReg s _)
  case pushEs | pushCs | pushSs | pushDs | pushf =>
    exact .data (.push16 s _)
  case pushEv e =>
    exact .data (.pushOperand s _)
  case popR16 r =>
    exact .data ((Data.pop16 s).trans (.setReg _ _ _))
  case popEv e =>
    exact .data ((Data.pop16 s).trans (.wr16 _ _ _))
  case xchgEbGb e g =>
    exact .data ((Data.wr8 s _ _).trans (.setReg8 _ _ _))
  case xchgEvGv e g =>
    exact .data ((Data.wr16 s _ _).trans (.setReg _ _ _))
  case xchgAxCx | xchgAxDx | xchgAxBx | xchgAxSp | xchgAxBp | xchgAxSi | xchgAxDi =>
    exact .data (.swapAx s _)
  case nop | wait | esc _ _ _ =>
    exact .data (.refl s)
  case testEbGb e g | testEvGv e g | testAlIb imm | testAxIv imm | testEbIb e imm | testEvIv e imm =>
    exact .data (.test s _ _)
  case testEbIbF1 e imm =>
    show Ends _ (execTestEbIbF1 e imm s)
    unfold execTestEbIbF1
    split
    · exact .data (.test s _ _)
    · trivial
  case testEvIvF1 e imm =>
    show Ends _ (execTestEvIvF1 e imm s)
    unfold execTestEvIvF1
    split
    · exact .data (.test s _ _)
    · trivial
  case sahf | clc | stc | cmc =>
    exact .data (.setFlags ⟨rfl, rfl, rfl⟩)
  case leaGvM g e =>
    cases e with
    | reg r => trivial
    | mem m => exact .data (.setReg s _ _)
  case callRel16 rel | callEv e =>
    exact .near (.push16 s _) _
  case jmpRel8 rel | jmpRel16 rel | jmpEv e =>
    exact .near (.refl s) _
  case ret | retC1 | retIw imm | retIwC0 imm =>
    exact .near ((Data.pop16 s).trans (.setReg _ _ _)) _
  case joRel8 rel | jnoRel8 rel | jbRel8 rel | jnbRel8 rel | jeRel8 rel | jneRel8 rel | jbeRel8 rel |
      jaRel8 rel | jsRel8 rel | jnsRel8 rel | jpRel8 rel | jnpRel8 rel | jlRel8 rel | jgeRel8 rel |
      jleRel8 rel | jgRel8 rel | jcxzRel8 rel | jccAlias cc rel =>
    exact effect_jumpIf (.refl s) _ _
  case loopRel8 rel | loopzRel8 rel | loopnzRel8 rel =>
    exact effect_jumpIf (.setReg s _ _) _ _
  case callAp off sg =>
    exact .far rfl ((Data.push16 s _).trans (.push16 _ _)) _ _
  case callMp e =>
    cases e with
    | reg r => trivial
    | mem m => exact .far rfl ((Data.push16 s _).trans (.push16 _ _)) _ _
  case jmpAp off sg =>
    exact .far rfl (.refl s) _ _
  case jmpMp e =>
    cases e with
    | reg r => trivial
    | mem m => exact .far rfl (.refl s) _ _
  case retf | retfC9 | retfIw imm | retfIwC8 imm =>
    exact .far rfl (((Data.pop16 s).trans (.pop16 _)).trans (.setReg _ _ _)) _ _
  case intIb imm | int3 =>
    exact effect_service rfl _
  case into =>
    show Ends _ (.next (if s.flags.OF then s.service 4#8 s.ip else s))
    split
    · exact effect_service rfl _
    · exact .data (.refl s)
  case iret =>
    exact .iret rfl
  case movSregEw sr e =>
    exact effect_loadSeg rfl _
  case popEs | popCs | popSs | popDs =>
    exact effect_popSeg rfl
  case ldsGvMp g e | lesGvMp g e =>
    cases e with
    | reg r => trivial
    | mem m => exact .segment rfl _ _ s.noint s.queue (.inr ⟨by decide, rfl⟩)
  case popf =>
    exact .flags _ _ _ ⟨fun _ => by simp, fun _ => by simp, fun _ => by simp⟩
  case cld | std =>
    exact .flags s.regs _ s.noint ⟨fun _ => by simp, fun h => absurd rfl h, fun h => absurd rfl h⟩
  case cli | sti =>
    exact .flags s.regs _ _ ⟨fun h => absurd rfl h, fun h => absurd rfl h, fun _ => by simp⟩
  case inAlIb imm | inAxIb imm | inAlDx | inAxDx | outIbAl imm | outIbAx imm | outDxAl | outDxAx =>
    exact .port rfl _ _ _
  case hlt =>
    exact .halt rfl
  case lock | lockF1 | segEs | segCs | segSs | segDs | repne | repe =>
    exact .prefixByte rfl _ _ _
  case movsb | movsw | cmpsb | cmpsw | scasb | scasw | lodsb | lodsw | stosb | stosw =>
    exact effect_stringInsn _
  case unknownOpcode _ =>
    exact .unknown rfl _
  case movEwSregBad _ _ | movSregEwBad _ _ | refused8F1 _ _ | refused8F2 _ _ | refused8F3 _ _ | refused8F4 _ _ |
      refused8F5 _ _ | refused8F6 _ _ | refused8F7 _ _ | refusedC61 _ _ | refusedC62 _ _ | refusedC63 _ _ |
      refusedC64 _ _ | refusedC65 _ _ | refusedC66 _ _ | refusedC67 _ _ | refusedC71 _ _ | refusedC72 _ _ |
      refusedC73 _ _ | refusedC74 _ _ | refusedC75 _ _ | refusedC76 _ _ | refusedC77 _ _ | refusedD06 _ _ |
      refusedD16 _ _ | refusedD26 _ _ | refusedD36 _ _ | refusedFE2 _ _ | refusedFE3 _ _ | refusedFE4 _ _ |
      refusedFE5 _ _ | refusedFE6 _ _ | refusedFE7 _ _ | refusedFF7 _ _ =>
    trivial

end Sys2Proof.Machine
end

section
/-! Who writes what, which forms are refused, and what every step keeps: consequences of the classification. -/

namespace Sys2Proof.Machine

open Sys2Proof Sys2Proof.Claims

/-! ## Who writes what (10_state.md R33, R37) -/

namespace Data

variable {s t : State} (h : Data s t)
include h

theorem ip_eq : t.ip = s.ip := (congrArg State.ip h.only).trans rfl

theorem segs_eq : t.segs = s.segs := (congrArg State.segs h.only).trans rfl

theorem ioLog_eq : t.ioLog = s.ioLog := (congrArg State.ioLog h.only).trans rfl

theorem halted_eq : t.halted = s.halted := (congrArg State.halted h.only).trans rfl

end Data

/-- What O60 says of one execution. -/
structure Writes (i : Instr) (s t : State) : Prop where
  queue : (t.ip ≠ s.ip ∨ t.segs.cs ≠ s.segs.cs) → (∀ b, i ≠ .unknownOpcode b) → t.queue = []
  cs : t.segs.cs ≠ s.segs.cs → writesCs i = true
  es : t.segs.es ≠ s.segs.es → i = .popEs ∨ (∃ e, i = .movSregEw .es e) ∨ ∃ g e, i = .lesGvMp g e
  ds : t.segs.ds ≠ s.segs.ds → i = .popDs ∨ (∃ e, i = .movSregEw .ds e) ∨ ∃ g e, i = .ldsGvMp g e
  ss : t.segs.ss ≠ s.segs.ss → i = .popSs ∨ ∃ e, i = .movSregEw .ss e
  df : t.flags.DF ≠ s.flags.DF → i ∈ [.cld, .std, .popf, .iret]
  tf : t.flags.TF ≠ s.flags.TF → i ∈ [.popf, .iret] ∨ (canEnter i = true ∧ t.flags.TF = false)
  masked : t.flags.IF ≠ s.flags.IF → i ∈ [.sti, .cli, .popf, .iret] ∨ (canEnter i = true ∧ t.flags.IF = false)
  io : t.ioLog ≠ s.ioLog → i ∈ [.inAlDx, .inAxDx, .outDxAl, .outDxAx] ∨
    ∃ p, i ∈ [.inAlIb p, .inAxIb p, .outIbAl p, .outIbAx p]
  halt : t.halted = true → s.halted = false → i = .hlt

/-- Where ES, DS, SS, the system flags, the I/O record and the halt are as before, only CS and `ip` are left to say. -/
theorem writes_of_kept {i : Instr} {s t : State}
    (hqueue : (t.ip ≠ s.ip ∨ t.segs.cs ≠ s.segs.cs) → (∀ b, i ≠ .unknownOpcode b) → t.queue = [])
    (hcs : t.segs.cs ≠ s.segs.cs → writesCs i = true) (hes : t.segs.es = s.segs.es) (hds : t.segs.ds = s.segs.ds)
    (hss : t.segs.ss = s.segs.ss) (hflags : SystemFlagsKept s.flags t.flags) (hio : t.ioLog = s.ioLog)
    (hhalted : t.halted = s.halted) : Writes i s t := by
  obtain ⟨htf, hif, hdf⟩ := hflags
  refine ⟨hqueue, hcs, fun h => absurd hes h, fun h => absurd hds h, fun h => absurd hss h, fun h => absurd hdf h,
    fun h => absurd htf h, fun h => absurd hif h, fun h => absurd hio h, fun h h' => ?_⟩
  rw [hhalted, h'] at h
  contradiction

/-- Where neither CS nor `ip` changes either, nothing is left to say. -/
theorem writes_of_unchanged {i : Instr} {s t : State} (hip : t.ip = s.ip) (hsegs : t.segs = s.segs)
    (hflags : SystemFlagsKept s.flags t.flags) (hio : t.ioLog = s.ioLog) (hhalted : t.halted = s.halted) :
    Writes i s t := by
  have hcs := congrArg Segs.cs hsegs
  exact writes_of_kept (fun h => absurd h (by simp [hip, hcs])) (fun h => absurd hcs h) (congrArg _ hsegs)
    (congrArg _ hsegs) (congrArg _ hsegs) hflags hio hhalted

/-- The instructions that load a segment register without a transfer of control. -/
theorem eq_of_loadedSeg {i : Instr} {x : SReg} (h : loadedSeg i = some x) :
    (∃ e, i = .movSregEw x e) ∨ (x = .es ∧ (i = .popEs ∨ ∃ g e, i = .lesGvMp g e)) ∨
      (x = .ds ∧ (i = .popDs ∨ ∃ g e, i = .ldsGvMp g e)) ∨ (x = .cs ∧ i = .popCs) ∨ (x = .ss ∧ i = .popSs) := by
  cases i
  case movSregEw y e =>
    cases h
    exact .inl ⟨e, rfl⟩
  case popEs | popDs | popCs | popSs | lesGvMp g e | ldsGvMp g e =>
    cases h
    simp
  all_goals cases h

/-- The port instructions. -/
theorem eq_of_usesPort {i : Instr} (h : usesPort i = true) :
    i ∈ [.inAlDx, .inAxDx, .outDxAl, .outDxAx] ∨ ∃ p, i ∈ [.inAlIb p, .inAxIb p, .outIbAl p, .outIbAx p] := by
  cases i
  case inAlIb p | inAxIb p | outIbAl p | outIbAx p => exact .inr ⟨p, by simp⟩
  case inAlDx | inAxDx | outDxAl | outDxAx => exact .inl (by simp)
  all_goals cases h

/-- R33: a load of CS is by one of its writers. -/
theorem writesCs_of_loadedSeg {i : Instr} (h : loadedSeg i = some .cs) : writesCs i = true := by
  obtain ⟨e, rfl⟩ | ⟨⟨⟩, -⟩ | ⟨⟨⟩, -⟩ | ⟨-, rfl⟩ | ⟨⟨⟩, -⟩ := eq_of_loadedSeg h <;> rfl

/-- An instruction that can take a vectored transfer writes CS (R33). -/
theorem writesCs_of_canEnter {i : Instr} (h : canEnter i = true) : writesCs i = true := by
  cases i
  case intIb p | int3 | into | divEb e | divEv e | idivEb e | idivEv e | aamIb p => rfl
  all_goals cases h

/-- A segment register that a load changes is the one it names. -/
theorem eq_of_set_ne {g : Segs} {x y : SReg} {v : Word} (h : (g.set x v).get y ≠ g.get y) : x = y := by
  by_contra hne
  exact h (by rw [Segs.get_set, if_neg (Ne.symm hne)])

theorem writes_of_segment {i : Instr} {s : State} {x : SReg} (hi : loadedSeg i = some x) (v : Word) (r : Regs)
    (n : Bool) (q : List Byte) (hq : q = [] ∨ x ≠ .cs ∧ q = s.queue) :
    Writes i s { s with segs := s.segs.set x v, regs := r, noint := n, queue := q } where
  queue := by
    rintro (hip | hcs) -
    · exact absurd rfl hip
    · obtain hempty | ⟨hne, -⟩ := hq
      · exact hempty
      · exact absurd (eq_of_set_ne (y := .cs) hcs) hne
  cs := by
    intro hcs
    obtain rfl := eq_of_set_ne (y := .cs) hcs
    exact writesCs_of_loadedSeg hi
  es := by
    intro hes
    obtain rfl := eq_of_set_ne (y := .es) hes
    obtain ⟨e, rfl⟩ | ⟨-, rfl | ⟨g, e, rfl⟩⟩ | ⟨⟨⟩, -⟩ | ⟨⟨⟩, -⟩ | ⟨⟨⟩, -⟩ := eq_of_loadedSeg hi <;> simp
  ds := by
    intro hds
    obtain rfl := eq_of_set_ne (y := .ds) hds
    obtain ⟨e, rfl⟩ | ⟨⟨⟩, -⟩ | ⟨-, rfl | ⟨g, e, rfl⟩⟩ | ⟨⟨⟩, -⟩ | ⟨⟨⟩, -⟩ := eq_of_loadedSeg hi <;> simp
  ss := by
    intro hss
    obtain rfl := eq_of_set_ne (y := .ss) hss
    obtain ⟨e, rfl⟩ | ⟨⟨⟩, -⟩ | ⟨⟨⟩, -⟩ | ⟨⟨⟩, -⟩ | ⟨-, rfl⟩ := eq_of_loadedSeg hi <;> simp
  df := fun h => absurd rfl h
  tf := fun h => absurd rfl h
  masked := fun h => absurd rfl h
  io := fun h => absurd rfl h
  halt := fun h h' => absurd (h.symm.trans h') (by decide)

theorem writes_of_entry {i : Instr} {s u : State} (hi : canEnter i = true) {v : Byte} (hu : u = s.service v s.ip)
    {f : Flags} (hf : SystemFlagsKept u.flags f) (n : Nat) : Writes i s { u with flags := f, draws := n } := by
  obtain ⟨hframe, -, hsegs, -, hflags, -, hqueue, hhalted⟩ := entered_service s v s.ip
  rw [← hu] at hframe hsegs hflags hqueue hhalted
  obtain ⟨htf, hif, hdf⟩ := hf
  rw [hflags] at htf hif hdf
  have hio : u.ioLog = s.ioLog := (congrArg State.ioLog hframe).trans rfl
  refine ⟨fun _ _ => hqueue, fun _ => writesCs_of_canEnter hi, fun h => absurd (congrArg Segs.es hsegs) h,
    fun h => absurd (congrArg Segs.ds hsegs) h, fun h => absurd (congrArg Segs.ss hsegs) h, fun h => absurd hdf h,
    fun _ => .inr ⟨hi, htf⟩, fun _ => .inr ⟨hi, hif⟩, fun h => absurd hio h, fun h _ => ?_⟩
  exact absurd (h.symm.trans hhalted) (by decide)

theorem writes_of_iret (s : State) : Writes .iret s s.returnFromInterrupt := by
  rw [s.returnFromInterrupt_eq]
  exact ⟨fun _ _ => rfl, fun _ => rfl, fun h => absurd rfl h, fun h => absurd rfl h, fun h => absurd rfl h,
    fun _ => by simp, fun _ => .inl (by simp), fun _ => .inl (by simp), fun h => absurd rfl h,
    fun h h' => absurd (h.symm.trans h') (by decide)⟩

theorem writes_of_flags {i : Instr} {s : State} {f : Flags} (hi : FlagsAdmitted i s.flags f) (r : Regs) (n : Bool) :
    Writes i s { s with regs := r, flags := f, noint := n } := by
  obtain ⟨hdf, htf, hif⟩ := hi
  exact ⟨fun h => absurd h (by simp), fun h => absurd rfl h, fun h => absurd rfl h, fun h => absurd rfl h,
    fun h => absurd rfl h, hdf, fun h => .inl (htf h), fun h => .inl (hif h), fun h => absurd rfl h,
    fun h h' => absurd (h.symm.trans h') (by decide)⟩

theorem writes_of_port {i : Instr} {s : State} (hi : usesPort i = true) (r : Regs) (e : IoEvent) (n : Nat) :
    Writes i s { s with regs := r, ioLog := e :: s.ioLog, draws := n } :=
  ⟨fun h => absurd h (by simp), fun h => absurd rfl h, fun h => absurd rfl h, fun h => absurd rfl h,
    fun h => absurd rfl h, fun h => absurd rfl h, fun h => absurd rfl h, fun h => absurd rfl h,
    fun _ => eq_of_usesPort hi, fun h h' => absurd (h.symm.trans h') (by decide)⟩

theorem writes_of_halt (s : State) : Writes .hlt s { s with halted := true } :=
  ⟨fun h => absurd h (by simp), fun h => absurd rfl h, fun h => absurd rfl h, fun h => absurd rfl h,
    fun h => absurd rfl h, fun h => absurd rfl h, fun h => absurd rfl h, fun h => absurd rfl h,
    fun h => absurd rfl h, fun _ _ => rfl⟩

/-- Each kind of effect writes only what O60 admits. -/
theorem Effect.writes {i : Instr} {s t : State} (h : Effect i s t) : Writes i s t := by
  cases h with
  | data data => exact writes_of_unchanged data.ip_eq data.segs_eq data.flags data.ioLog_eq data.halted_eq
  | near data target =>
    have hsegs := data.segs_eq
    exact writes_of_kept (fun _ _ => rfl) (fun hcs => absurd (congrArg Segs.cs hsegs) hcs) (congrArg Segs.es hsegs)
      (congrArg Segs.ds hsegs) (congrArg Segs.ss hsegs) data.flags data.ioLog_eq data.halted_eq
  | far writer data sg off =>
    have hes := congrArg Segs.es data.segs_eq
    have hds := congrArg Segs.ds data.segs_eq
    have hss := congrArg Segs.ss data.segs_eq
    exact writes_of_kept (fun _ _ => rfl) (fun _ => writer) hes hds hss data.flags data.ioLog_eq data.halted_eq
  | entry writer serviced flags n => exact writes_of_entry writer serviced flags n
  | iret writer =>
    subst writer
    exact writes_of_iret s
  | segment writer v r n q queue => exact writes_of_segment writer v r n q queue
  | flags r f n writer => exact writes_of_flags writer r n
  | port writer r e n => exact writes_of_port writer r e n
  | halt writer =>
    subst writer
    exact writes_of_halt s
  | prefixByte writer o r l => exact writes_of_unchanged rfl rfl (systemFlagsKept_refl _) rfl rfl
  | iteration data rep y =>
    exact writes_of_unchanged data.ip_eq data.segs_eq data.flags data.ioLog_eq data.halted_eq
  | interrupted target =>
    exact writes_of_kept (fun _ _ => rfl) (fun hcs => absurd rfl hcs) rfl rfl rfl (systemFlagsKept_refl _) rfl rfl
  | unknown writer target =>
    exact writes_of_kept (fun _ hknown => absurd writer (hknown _)) (fun hcs => absurd rfl hcs) rfl rfl rfl
      (systemFlagsKept_refl _) rfl rfl

/-- Settles O60: from the classification of the effects. -/
theorem whoWritesWhat : Obligations.WhoWritesWhat := by
  intro i s t hexec
  have heffect := exec_effect i s
  rw [hexec] at heffect
  obtain ⟨hqueue, hcs, hes, hds, hss, hdf, htf, hif, hio, hhalt⟩ := Effect.writes heffect
  exact ⟨hqueue, hcs, hes, hds, hss, hdf, htf, hif, hio, hhalt⟩

end Sys2Proof.Machine
end

section
/-! What every step keeps: the platform's inputs, the canonical form of memory, the queue's bound, and the invariant. -/

namespace Sys2Proof.Machine

open Sys2Proof Sys2Proof.Claims

/-! ## The platform's inputs, memory and the queue -/

/-- The parameters and the NMI enable are kept, the NMI latch is not set, memory stays canonical and the queue within
its capacity. -/
structure Sustains (s t : State) : Prop where
  cfg : t.cfg = s.cfg
  nmiEnable : t.nmiEnable = s.nmiEnable
  nmiPending : t.nmiPending = true → s.nmiPending = true
  memory : s.mem.wf = true → t.mem.wf = true
  queue : s.queue.length ≤ queueCap s.cfg → t.queue.length ≤ queueCap s.cfg

namespace Sustains

variable {s t u : State}

theorem refl (s : State) : Sustains s s := ⟨rfl, rfl, id, id, id⟩

theorem trans (h : Sustains s t) (h' : Sustains t u) : Sustains s u where
  cfg := h'.cfg.trans h.cfg
  nmiEnable := h'.nmiEnable.trans h.nmiEnable
  nmiPending := fun hu => h.nmiPending (h'.nmiPending hu)
  memory := fun hs => h'.memory (h.memory hs)
  queue := by
    have hqueue := h'.queue
    rw [h.cfg] at hqueue
    exact fun hs => hqueue (h.queue hs)

/-- Where the queue is emptied or kept and memory is kept, there is nothing to show of them. -/
theorem of_mem_eq (hcfg : t.cfg = s.cfg) (hen : t.nmiEnable = s.nmiEnable)
    (hnmi : t.nmiPending = true → s.nmiPending = true) (hmem : t.mem = s.mem)
    (hqueue : t.queue = [] ∨ t.queue = s.queue) : Sustains s t where
  cfg := hcfg
  nmiEnable := hen
  nmiPending := hnmi
  memory := by rw [hmem]; exact id
  queue := by
    obtain hq | hq := hqueue
    · rw [hq]
      exact fun _ => Nat.zero_le _
    · rw [hq]
      exact id

theorem of_data (h : Data s t) : Sustains s t where
  cfg := h.cfg_eq
  nmiEnable := (congrArg State.nmiEnable h.only).trans rfl
  nmiPending := by
    rw [(congrArg State.nmiPending h.only).trans rfl]
    exact id
  memory := h.memory
  queue := h.queue

theorem fill (s : State) : Sustains s s.fill where
  cfg := s.fill_cfg
  nmiEnable := s.fill_nmiEnable
  nmiPending := id
  memory := id
  queue := s.fill_queue_le

theorem push16 (s : State) (v : Word) : Sustains s (s.push16 v) := of_data (.push16 s v)

theorem setFlags (s : State) (f : Flags) : Sustains s (s.setFlags f) := of_mem_eq rfl rfl id rfl (.inr rfl)

theorem jump (s : State) (target : Word) : Sustains s (s.jump target) := of_mem_eq rfl rfl id rfl (.inl rfl)

theorem farJump (s : State) (sg off : Word) : Sustains s (s.farJump sg off) := of_mem_eq rfl rfl id rfl (.inl rfl)

theorem awake (s : State) : Sustains s { s with halted := false } := of_mem_eq rfl rfl id rfl (.inr rfl)

/-- A vectored transfer is three pushes, the flags changed after the first, and a far jump (R512). -/
theorem service (s : State) (v : Byte) (ret : Word) : Sustains s (s.service v ret) :=
  ((((push16 s s.flags.image).trans (setFlags _ _)).trans (push16 _ _)).trans (push16 _ ret)).trans
    ((farJump _ _ _).trans (awake _))

theorem interruptCheck (s : State) : Sustains s s.interruptCheck := by
  obtain ⟨-, h⟩ | ⟨-, h | ⟨p, c, a, v, hp, h⟩⟩ := interruptCheck_cases s
  · rw [h]
    exact of_mem_eq rfl rfl id rfl (.inr rfl)
  · rw [h]
    exact refl s
  · rw [h]
    exact (of_mem_eq (s := s) (t := { s with nmiPending := p, ctrl := c, acked := a }) rfl rfl hp rfl (.inr rfl)).trans
      (service _ v s.ip)

theorem endInstr (s : State) : Sustains s s.endInstr :=
  (of_mem_eq (s := s) (t := withoutPrefixState s) rfl rfl id rfl (.inr rfl)).trans (interruptCheck _)

theorem finish (s : State) : Sustains s s.finish := by
  unfold State.finish
  split
  · exact refl s
  · exact endInstr s

theorem stepStart (s : State) : Sustains s s.stepStart := by
  unfold State.stepStart
  split
  · exact refl s
  · exact (fill s).trans (of_mem_eq rfl rfl id rfl (.inr rfl))

theorem haltedStep (s : State) : Sustains s s.haltedStep :=
  ((fill s).trans (of_mem_eq (s := s.fill) (t := { s.fill with trapPending := false }) rfl rfl id rfl (.inr rfl))).trans
    (interruptCheck _)

theorem fetchBytes (n : Nat) (s : State) : Sustains s (State.fetchBytes n s).2 := by
  rw [fetchBytes_state]
  exact ⟨rfl, rfl, id, id, fun h => (List.drop_sublist n s.queue).length_le.trans h⟩

end Sustains

/-- What fetching an instruction does to the state: bytes are taken, the instruction's offset is noted, and a run of
bytes of R133 is left. -/
theorem fetchInstr_ok {s t : State} {i : Instr} (h : s.fetchInstr = .ok (i, t)) :
    ∃ n, t = { (State.fetchBytes n s).2 with opIp := s.ip, prefixing := false } := by
  unfold State.fetchInstr at h
  split at h
  · cases h
    exact ⟨_, rfl⟩
  · contradiction

/-- Every kind of effect keeps the platform's inputs, memory's form and the queue's bound. -/
theorem Effect.sustains {i : Instr} {s t : State} (h : Effect i s t) : Sustains s t := by
  cases h with
  | data data => exact .of_data data
  | near data target => exact (Sustains.of_data data).trans (.jump _ target)
  | far writer data sg off => exact (Sustains.of_data data).trans (.farJump _ sg off)
  | @entry writer v u serviced f flags n =>
    have hservice : Sustains s u := serviced ▸ Sustains.service s v s.ip
    exact hservice.trans (.of_mem_eq rfl rfl id rfl (.inr rfl))
  | iret writer =>
    rw [s.returnFromInterrupt_eq]
    exact .of_mem_eq rfl rfl id rfl (.inl rfl)
  | segment writer v r n q queue => exact .of_mem_eq rfl rfl id rfl (queue.imp_right And.right)
  | flags r f n writer => exact .of_mem_eq rfl rfl id rfl (.inr rfl)
  | port writer r e n => exact .of_mem_eq rfl rfl id rfl (.inr rfl)
  | halt writer => exact .of_mem_eq rfl rfl id rfl (.inr rfl)
  | prefixByte writer o r l => exact .of_mem_eq rfl rfl id rfl (.inr rfl)
  | iteration data rep y => exact (Sustains.of_data data).trans (.of_mem_eq rfl rfl id rfl (.inr rfl))
  | interrupted target => exact .of_mem_eq rfl rfl id rfl (.inl rfl)
  | unknown writer target => exact .of_mem_eq rfl rfl id rfl (.inr rfl)

/-! ## Repeating and runs of bytes of R133 -/

/-- The second half of the invariant: the machine repeats under a REP byte only, and in a run of bytes of R133 it
neither repeats nor is halted. -/
structure Settled (t : State) : Prop where
  repeating : t.repeating.isSome = true → t.rep.isSome = true
  prefixing : t.prefixing = true → t.repeating = none ∧ t.halted = false

/-- A state in no run of bytes of R133 that does not repeat. -/
theorem Settled.of_none {t : State} (hrepeating : t.repeating = none) (hprefixing : t.prefixing = false) : Settled t :=
  ⟨fun h => by simp [hrepeating] at h, fun h => by simp [hprefixing] at h⟩

theorem interruptCheck_prefixing (s : State) : s.interruptCheck.prefixing = s.prefixing := by
  obtain ⟨-, h⟩ | ⟨-, h | ⟨p, c, a, v, -, h⟩⟩ := interruptCheck_cases s
  · rw [h]
  · rw [h]
  · rw [h, (entered_service { s with nmiPending := p, ctrl := c, acked := a } v s.ip).1]

/-- The end of a step is settled where its execution left a REP state with what repeats. -/
theorem settled_finish {t : State} (hrep : t.repeating.isSome = true → t.rep.isSome = true)
    (hprefixing : t.prefixing = false) : Settled t.finish := by
  cases hrepeating : t.repeating with
  | none =>
    have hend : t.finish = (withoutPrefixState t).interruptCheck := by
      rw [State.finish, hrepeating]
      rfl
    rw [hend]
    obtain ⟨-, -, -, hnone, -⟩ := interruptCheck_keeps (withoutPrefixState t)
    exact .of_none hnone ((interruptCheck_prefixing _).trans hprefixing)
  | some x =>
    have hend : t.finish = t := by rw [State.finish, hrepeating]
    rw [hend]
    exact ⟨hrep, fun h => by simp [hprefixing] at h⟩

/-- An execution neither enters nor leaves a run of bytes of R133. -/
theorem Effect.prefixing_eq {i : Instr} {s t : State} (h : Effect i s t) : t.prefixing = s.prefixing := by
  cases h with
  | data data | near data | far _ data | iteration data => exact (congrArg State.prefixing data.only).trans rfl
  | @entry writer v u serviced f flags n =>
    have hframe := (entered_service s v s.ip).1
    rw [← serviced] at hframe
    exact (congrArg State.prefixing hframe).trans rfl
  | iret writer => rw [s.returnFromInterrupt_eq]
  | segment | flags | port | halt | prefixByte | interrupted | unknown => rfl

/-- An execution that begins to repeat does so under a REP byte. -/
theorem Effect.rep_of_repeating {i : Instr} {s t : State} (h : Effect i s t) (hnone : s.repeating = none) :
    t.repeating.isSome = true → t.rep.isSome = true := by
  have hnot : ∀ {o : Option StrInsn}, o = s.repeating → o.isSome = true → t.rep.isSome = true := by
    intro o ho hsome
    simp [ho, hnone] at hsome
  cases h with
  | data data | near data | far _ data => exact hnot ((congrArg State.repeating data.only).trans rfl)
  | @entry writer v u serviced f flags n =>
    have hframe := (entered_service s v s.ip).1
    rw [← serviced] at hframe
    exact hnot ((congrArg State.repeating hframe).trans rfl)
  | iret writer =>
    rw [s.returnFromInterrupt_eq] at hnot ⊢
    exact hnot rfl
  | segment | flags | port | halt | prefixByte | unknown => exact hnot rfl
  | interrupted => exact fun h => absurd h (by simp)
  | @iteration u data rep y =>
    have hrep : u.rep = s.rep := (congrArg State.rep data.only).trans rfl
    exact fun _ => (congrArg Option.isSome hrep).trans rep

/-- A byte of R133 writes the override, LOCK and REP state only (45_processor_control.md R420 to R422). -/
theorem exec_of_isPrefix {i : Instr} (hi : isPrefix i = true) (s : State) :
    ∃ o r l, exec i s = .next { s with ovr := o, rep := r, lock := l } := by
  cases i
  case lock | lockF1 | segEs | segCs | segSs | segDs | repne | repe => exact ⟨_, _, _, rfl⟩
  all_goals cases hi

/-- The units of a step: an instruction is fetched and executed; after a byte of R133 the next one follows, any other
instruction ends the step. -/
theorem runUnits_succ_next {fuel : Nat} {u t : State} (h : runUnits (fuel + 1) u = .next t) :
    ∃ i w v, u.fetchInstr = .ok (i, w) ∧ exec i w.fill = .next v ∧
      ((isPrefix i = true ∧ runUnits fuel v = .next t) ∨ (isPrefix i = false ∧ t = v.finish)) := by
  rw [runUnits] at h
  split at h
  · contradiction
  · next i w hfetch =>
    split at h
    · next v hexec =>
      refine ⟨i, w, v, hfetch, hexec, ?_⟩
      cases hi : isPrefix i with
      | true =>
        rw [hi] at h
        exact .inl ⟨rfl, h⟩
      | false =>
        rw [hi] at h
        cases h
        exact .inr ⟨rfl, rfl⟩
    · contradiction
    · contradiction

/-- A step of a machine that neither repeats nor is halted, from its first unit on. -/
theorem runUnits_keeps (fuel : Nat) : ∀ u t : State, u.repeating = none → u.halted = false →
    runUnits fuel u = .next t → Sustains u t ∧ Settled t := by
  induction fuel with
  | zero =>
    intro u t hrepeating hhalted h
    cases h
    exact ⟨.of_mem_eq rfl rfl id rfl (.inr rfl), fun h => by simp [hrepeating] at h, fun _ => ⟨hrepeating, hhalted⟩⟩
  | succ fuel ih =>
    intro u t hrepeating hhalted h
    obtain ⟨i, w, v, hfetch, hexec, hrest⟩ := runUnits_succ_next h
    obtain ⟨n, hw⟩ := fetchInstr_ok hfetch
    rw [fetchBytes_state] at hw
    have hfetched : Sustains u w := by
      have hbytes := Sustains.fetchBytes n u
      rw [fetchBytes_state] at hbytes
      rw [hw]
      exact hbytes.trans (.of_mem_eq rfl rfl id rfl (.inr rfl))
    have heffect := exec_effect i w.fill
    rw [hexec] at heffect
    have hdone : Sustains u v := (hfetched.trans (.fill w)).trans (Effect.sustains heffect)
    have hrepeating' : w.fill.repeating = none := by rw [w.fill_repeating, hw]; exact hrepeating
    have hhalted' : w.fill.halted = false := by rw [w.fill_halted, hw]; exact hhalted
    have hprefixing' : w.fill.prefixing = false := by rw [w.fill_prefixing, hw]
    obtain ⟨hi, hrun⟩ | ⟨hi, rfl⟩ := hrest
    · obtain ⟨o, r, l, hprefix⟩ := exec_of_isPrefix hi w.fill
      rw [hprefix] at hexec
      cases hexec
      obtain ⟨hsustains, hsettled⟩ := ih { w.fill with ovr := o, rep := r, lock := l } t hrepeating' hhalted' hrun
      exact ⟨hdone.trans hsustains, hsettled⟩
    · refine ⟨hdone.trans (.finish v), settled_finish (Effect.rep_of_repeating heffect hrepeating') ?_⟩
      exact (Effect.prefixing_eq heffect).trans hprefixing'

/-- A step of a machine that neither repeats nor is halted. -/
theorem step_running {s t : State} (hhalted : s.halted = false) (hrepeating : s.repeating = none)
    (h : step s = .next t) : Sustains s t ∧ Settled t := by
  have hrun : runUnits prefixFuel s.stepStart = .next t := by
    simpa [step, hhalted, hrepeating] using h
  have hstart : s.stepStart.repeating = none ∧ s.stepStart.halted = false := by
    unfold State.stepStart
    split
    · exact ⟨hrepeating, hhalted⟩
    · exact ⟨hrepeating, hhalted⟩
  obtain ⟨hsustains, hsettled⟩ := runUnits_keeps prefixFuel s.stepStart t hstart.1 hstart.2 hrun
  exact ⟨(Sustains.stepStart s).trans hsustains, hsettled⟩

/-- A further iteration keeps what every step keeps, the REP state and the run of bytes of R133. -/
theorem repIteration_keeps (s : State) (x : StrInsn) :
    Sustains s (s.repIteration x) ∧ (s.repIteration x).rep = s.rep ∧ (s.repIteration x).prefixing = s.prefixing := by
  obtain ⟨t, y, hdata, h⟩ | ⟨target, h⟩ := repIteration_cases s x
  · rw [h]
    exact ⟨(Sustains.of_data hdata).trans (.of_mem_eq rfl rfl id rfl (.inr rfl)),
      (congrArg State.rep hdata.only).trans rfl, (congrArg State.prefixing hdata.only).trans rfl⟩
  · rw [h]
    exact ⟨.of_mem_eq rfl rfl id rfl (.inl rfl), rfl, rfl⟩

/-- A step, by what the machine is doing: it is halted, it repeats, or it takes an instruction. -/
theorem step_sustains {s t : State} (h : step s = .next t) : Sustains s t := by
  cases hhalted : s.halted with
  | true =>
    rw [step, if_pos hhalted] at h
    cases h
    exact .haltedStep s
  | false =>
    cases hrepeating : s.repeating with
    | none => exact (step_running hhalted hrepeating h).1
    | some x =>
      rw [step_repeating hhalted hrepeating] at h
      cases h
      exact ((Sustains.fill s).trans (repIteration_keeps s.fill x).1).trans (.finish _)

/-- Settles O11. -/
theorem stepKeepsPlatformInputs : Obligations.StepKeepsPlatformInputs := by
  intro s t h
  have hkeeps := step_sustains h
  exact ⟨hkeeps.nmiEnable, hkeeps.cfg, hkeeps.nmiPending⟩

/-- Every step from a state with the invariant is settled. -/
theorem step_settled {s t : State} (hinv : s.Inv) (h : step s = .next t) : Settled t := by
  cases hhalted : s.halted with
  | true =>
    have hprefixing : s.prefixing = false := by
      by_contra hpre
      have hawake := (hinv.prefixing (Bool.not_eq_false _ ▸ hpre)).2
      rw [hhalted] at hawake
      contradiction
    rw [step_halted hhalted] at h
    cases h
    obtain ⟨-, hrep, -, hrepeating, -⟩ := interruptCheck_keeps (State.fill { s with trapPending := false })
    rw [State.fill_rep] at hrep
    rw [State.fill_repeating] at hrepeating
    refine ⟨fun hsome => ?_, fun hpre => ?_⟩
    · rw [hrepeating] at hsome
      rw [hrep]
      exact hinv.repeating hsome
    · rw [interruptCheck_prefixing, State.fill_prefixing, hprefixing] at hpre
      contradiction
  | false =>
    cases hrepeating : s.repeating with
    | none => exact (step_running hhalted hrepeating h).2
    | some x =>
      have hprefixing : s.prefixing = false := by
        by_contra hpre
        have hnone := (hinv.prefixing (Bool.not_eq_false _ ▸ hpre)).1
        rw [hrepeating] at hnone
        contradiction
      obtain ⟨-, hrep, hpre⟩ := repIteration_keeps s.fill x
      rw [step_repeating hhalted hrepeating] at h
      cases h
      refine settled_finish (fun _ => ?_) (hpre.trans hprefixing)
      rw [hrep, s.fill_rep]
      exact hinv.repeating (by rw [hrepeating]; rfl)

/-- Settles O9. -/
theorem stepKeepsInvariant : Obligations.StepKeepsInvariant := by
  intro s t hinv h
  have hkeeps := step_sustains h
  obtain ⟨hrepeating, hprefixing⟩ := step_settled hinv h
  refine ⟨hkeeps.memory hinv.memory, ?_, hrepeating, hprefixing⟩
  rw [hkeeps.cfg]
  exact hkeeps.queue hinv.queue

/-! ## The forms that are refused (46_undocumented.md R450) -/

/-- Whether a form stands in the list of R450. -/
def listed (i : Instr) (s : State) : Bool := alwaysRefused i || sometimesRefused s i

/-- An execution answers as the list of R450 says. -/
def AnswersAs (refused : Bool) : Result → Prop
  | .next _ => refused = false
  | .fault _ => False
  | .refused _ => refused = true

theorem answersAs_mulGuard (s t : State) :
    AnswersAs (s.rep.isSome || s.cfg.cpuVariant == .compat) (s.mulGuard t) := by
  unfold State.mulGuard
  cases s.rep.isSome
  · cases s.cfg.cpuVariant <;> rfl
  · rfl

theorem answersAs_unless (c : Bool) (t : State) (r : Refusal) : AnswersAs c (if c then .refused r else .next t) := by
  cases c <;> rfl

/-- Each instruction answers as the list says: the forms that depend on the operand, the REP state or a parameter one by
one, all others on every path. -/
theorem exec_answersAs (i : Instr) (s : State) : AnswersAs (listed i s) (exec i s) := by
  cases i
  case leaGvM g e | lesGvMp g e | ldsGvMp g e | callMp e | jmpMp e => cases e <;> rfl
  case testEbIbF1 e imm =>
    show AnswersAs (s.cfg.undoc == .noop) (execTestEbIbF1 e imm s)
    unfold execTestEbIbF1
    cases s.cfg.undoc <;> rfl
  case testEvIvF1 e imm =>
    show AnswersAs (s.cfg.undoc == .noop) (execTestEvIvF1 e imm s)
    unfold execTestEvIvF1
    cases s.cfg.undoc <;> rfl
  case aadIb imm =>
    show AnswersAs (s.cfg.cpuVariant == .compat) (execAadIb imm s)
    unfold execAadIb
    cases s.cfg.cpuVariant <;> rfl
  case aamIb imm =>
    show AnswersAs false (execAamIb imm s)
    unfold execAamIb
    split <;> rfl
  case mulEb e | mulEv e | imulEb e | imulEv e => exact answersAs_mulGuard s _
  case divEb e | divEv e | idivEb e | idivEv e => exact answersAs_unless _ _ _
  all_goals rfl

/-- Settles O59. -/
theorem refusedFormsAreThoseOfTheList : Obligations.RefusedFormsAreThoseOfTheList := by
  intro i s
  have hanswer := exec_answersAs i s
  unfold listed at hanswer
  generalize exec i s = out at hanswer ⊢
  cases out with
  | next t =>
    have hnot : (alwaysRefused i || sometimesRefused s i) = false := hanswer
    simp [hnot]
  | fault r => exact hanswer.elim
  | refused r =>
    have hlisted : (alwaysRefused i || sometimesRefused s i) = true := hanswer
    simp [hlisted]

end Sys2Proof.Machine
end
